-- ==== Sys2Proof/Word.lean ====
section
/-! DEFINITION. The bit-vector widths and the 4-byte frame of the rc433 CORE (00_scope.md R7, R8, R11). -/

namespace Sys2Proof

/-- A byte: a UART character's data, a frame byte, a line symbol (R7, R8). -/
abbrev Byte := BitVec 8

/-- A 4-bit nibble, the load of one line symbol (R7). -/
abbrev Nibble := BitVec 4

/-- The 5-bit CRC remainder and check field (R7, R53). -/
abbrev Crc5 := BitVec 5

/-- A slot's head or tail sequence counter; it wraps at 256 (R7, R52). -/
abbrev Counter := BitVec 8

/-- The 36-bit operation word `OPW` (30_encoding.md R59). -/
abbrev OpWord := BitVec 36

/-- A frame, the 4-tuple of bytes `(f0, f1, f2, f3)` (R11). Byte 0 is `addr_opcode`. -/
structure Frame where
  b0 : Byte
  b1 : Byte
  b2 : Byte
  b3 : Byte
deriving DecidableEq, Repr, Inhabited

end Sys2Proof
end

