-- ==== Sys2Proof/Config.lean ====
section
/-! DEFINITION. The implementation parameters of 00_scope.md R6, their constraints (R6, 30_encoding.md R58), and the
model's free values. No parameter has a value here: `params` is opaque, so a claim about the machine holds for every
configuration that meets the constraints. -/

namespace Sys2Proof.Config

/-- The parameters the spec leaves open (R6). They are configuration, fixed for a whole run, not state (R16). -/
structure Params where
  /-- `CODEBOOK`: the line symbol of each nibble. -/
  codebook : Nibble → Byte
  /-- `SYNC_CODE`: the byte the transmitter sends as a sync marker. -/
  syncCode : Byte
  /-- `SYNC_RX_SET`: the bytes the receiver recognises as a sync marker. -/
  syncRxSet : Byte → Bool
  /-- `CRC5_TX_CORE`: the sender's table-driven division over four bytes. -/
  crc5TxCore : Byte → Byte → Byte → Byte → Crc5
  /-- `CRC5_RX_CORE`: the receiver's. The source says its table may differ from the sender's. -/
  crc5RxCore : Byte → Byte → Byte → Byte → Crc5
  /-- `TX_JOIN`: whether a frame that is pending at `EOF` follows without an idle gap. -/
  txJoin : Bool
  /-- `BAUD`, in bits per second. No rule reads it. -/
  baud : Rat
  /-- `IDLE_GAP`, a duration. No rule reads it. -/
  idleGap : Rat
  /-- `MAX_RUN`, in bit times, the bound inside P_TRANS. No rule reads it. -/
  maxRun : Nat

/-- R58(a): the codebook is injective. -/
def Params.codebookInjective (c : Params) : Bool :=
  decide (∀ m n : Nibble, c.codebook m = c.codebook n → m = n)

/-- R58(b): `SYNC_CODE` is not a data symbol. -/
def Params.syncCodeNotData (c : Params) : Bool :=
  decide (∀ n : Nibble, c.codebook n ≠ c.syncCode)

/-- R58(c): no byte of `SYNC_RX_SET` is a data symbol. -/
def Params.syncSetDisjoint (c : Params) : Bool :=
  decide (∀ n : Nibble, c.syncRxSet (c.codebook n) = false)

/-- R58(d): the receiver recognises the transmitter's marker. -/
def Params.syncCodeReceived (c : Params) : Bool :=
  c.syncRxSet c.syncCode

/-- R6: `BAUD`, `IDLE_GAP` and `MAX_RUN` are positive. -/
def Params.quantitiesPositive (c : Params) : Bool :=
  decide (0 < c.baud) && decide (0 < c.idleGap) && decide (0 < c.maxRun)

/-- The constraints a configuration must satisfy: R58(a) to (d) and the positivity of R6. The model has no meaning for a
configuration that breaks one of them (R58). P_TRANS, R58(e), is a named assumption and no part of this (R75). -/
def Params.legal (c : Params) : Bool :=
  c.codebookInjective && c.syncCodeNotData && c.syncSetDisjoint && c.syncCodeReceived && c.quantitiesPositive

/-- A configuration together with the proof that it is legal. -/
abbrev LegalParams := { c : Params // c.legal = true }

/-- The constraints can be met, so a claim about every legal configuration is not empty. This configuration only shows that;
no proof can tell the machine's parameters equal to it or different from it. -/
def someLegal : LegalParams :=
  ⟨{ codebook := fun n => n.setWidth 8
     syncCode := 0xFF#8
     syncRxSet := fun b => b == 0xFF#8
     crc5TxCore := fun _ _ _ _ => 0#5
     crc5RxCore := fun _ _ _ _ => 0#5
     txJoin := false
     baud := 1
     idleGap := 1
     maxRun := 1 }, by decide⟩

/-- The hardware's legal configuration, whatever it is: a constant without a body (log 1, 2). Its argument only assures Lean
that the type has a member. -/
opaque chosen (inhabited : Inhabited LegalParams) : LegalParams

/-- The parameters of the machine that `exec` and `step` describe. -/
def params : Params := (chosen ⟨someLegal⟩).val

/-- FREE VALUES: the `n`-th draw of four bytes for a field that RESET leaves at "any value" (10_state.md R36,
70_reset_and_hazards.md R135). A constant without a body (log 3). -/
opaque freeFrame : Nat → Frame

/-- The parity setting of a UART character. -/
inductive Parity where
  | none
  | odd
  | even
deriving DecidableEq, Repr

/-- How the serial transceiver is set up (R139). -/
structure UartSetup where
  baud : Rat
  dataBits : Nat
  parity : Parity
  stopBits : Nat
deriving DecidableEq, Repr

/-- "fixed baud rate, 8 data bits, no parity, 1 stop bit" (R43, R139). -/
def Params.uartSetup (c : Params) : UartSetup :=
  { baud := c.baud, dataBits := 8, parity := .none, stopBits := 1 }

end Sys2Proof.Config
end

