-- ==== Sys2Proof/Syntax.lean ====
section
/-! DEFINITION. The operations of the CORE, the whole of spec/opcode_table.json (00_scope.md R13, 30_encoding.md R60). -/

namespace Sys2Proof

/-- The eight operations. Each is one externally triggered atomic step (R13). An operand's type holds exactly the operands
the encoding admits (R61 to R63). -/
inductive Instr where
  /-- `RESET`: `init()` (R135). -/
  | reset
  /-- `RX_BYTE data`: one received raw byte (R81). -/
  | rxByte (data : Byte)
  /-- `TXE`: the transmit data register is empty (R94). -/
  | txe
  /-- `TC`: transmission complete (R101). -/
  | tc
  /-- `TIMER`: the one-shot idle timer has elapsed (R102). -/
  | timer
  /-- `TICK`: the periodic tick (R103). -/
  | tick
  /-- `PKT_SEND f`: deposit an outbound frame (R111). -/
  | pktSend (f : Frame)
  /-- `PKT_RECV`: take the inbound frame, if any (R114). -/
  | pktRecv
deriving DecidableEq, Repr

/-- The operation's name as the opcode table spells it. -/
def Instr.mnemonic : Instr → String
  | .reset => "RESET"
  | .rxByte _ => "RX_BYTE"
  | .txe => "TXE"
  | .tc => "TC"
  | .timer => "TIMER"
  | .tick => "TICK"
  | .pktSend _ => "PKT_SEND"
  | .pktRecv => "PKT_RECV"

end Sys2Proof
end

