-- ==== Sys2Proof/WellFormed.lean ====
section
/-! DEFINITION. What is well formed before anything runs: an operation word (30_encoding.md R64, R65, checked against the
opcode table's match and mask), an operation, and (in Config.lean, `Params.legal`) a configuration. That a sequence of
operations is well formed depends on the state and stands in Safety.lean (60_exceptions.md R128). -/

namespace Sys2Proof

/-- One row of spec/opcode_table.json. -/
structure TableRow where
  mnemonic : String
  matchBits : OpWord
  maskBits : OpWord
deriving DecidableEq, Repr

/-- The rows of spec/opcode_table.json, in its order. -/
def opcodeTable : List TableRow :=
  [ ⟨"RESET", 0x000000000#36, 0xFFFFFFFFF#36⟩,
    ⟨"RX_BYTE", 0x000000001#36, 0xFFFFFF00F#36⟩,
    ⟨"TXE", 0x000000002#36, 0xFFFFFFFFF#36⟩,
    ⟨"TC", 0x000000003#36, 0xFFFFFFFFF#36⟩,
    ⟨"TIMER", 0x000000004#36, 0xFFFFFFFFF#36⟩,
    ⟨"TICK", 0x000000005#36, 0xFFFFFFFFF#36⟩,
    ⟨"PKT_SEND", 0x000000006#36, 0x00000000F#36⟩,
    ⟨"PKT_RECV", 0x000000007#36, 0xFFFFFFFFF#36⟩ ]

/-- Whether a word lies in a row of the table. -/
def TableRow.covers (r : TableRow) (w : OpWord) : Bool :=
  (w &&& r.maskBits) == r.matchBits

/-- A word spells an operation exactly when a row of the table covers it (R64, R65). -/
def wordWellFormed (w : OpWord) : Bool :=
  opcodeTable.any (·.covers w)

/-- Every term of `Instr` is a legal operation: `RX_BYTE` takes any byte (R61), "every operand value is legal" for `PKT_SEND`
(R62), and the other six take no operand (R63). Whether it is enabled in a state is a separate check (R70, R128). -/
def Instr.wellFormed : Instr → Bool
  | .reset => true
  | .rxByte _ => true
  | .txe => true
  | .tc => true
  | .timer => true
  | .tick => true
  | .pktSend _ => true
  | .pktRecv => true

end Sys2Proof
end

