-- ==== Sys2Proof/Decode.lean ====
section
/-! DEFINITION. Decoding and encoding of the 36-bit operation word (30_encoding.md R59 to R65, R70). -/

namespace Sys2Proof

/-- The two invalid verdicts of a decoder (R64, R65, R70). -/
inductive Invalid where
  /-- `op` is 0x8 to 0xF (R64). -/
  | reservedOp
  /-- A must-be-zero bit is set (R65). -/
  | nonzeroMbz
deriving DecidableEq, Repr

/-- `op = w[3:0]` (R59). -/
def opField (w : OpWord) : BitVec 4 := w.extractLsb' 0 4

/-- `operand = w[35:4]` (R59). -/
def operandField (w : OpWord) : BitVec 32 := w.extractLsb' 4 32

/-- `data = w[11:4]` of RX_BYTE (R61). -/
def dataField (w : OpWord) : Byte := w.extractLsb' 4 8

/-- `w[35:12]`, the must-be-zero bits of RX_BYTE (R61). -/
def rxByteMbz (w : OpWord) : BitVec 24 := w.extractLsb' 12 24

/-- The frame of PKT_SEND, byte 0 in the low bits (R62). -/
def frameField (w : OpWord) : Frame :=
  { b0 := w.extractLsb' 4 8
    b1 := w.extractLsb' 12 8
    b2 := w.extractLsb' 20 8
    b3 := w.extractLsb' 28 8 }

/-- An operation without operand: `w[35:4]` must be zero (R63, R65). -/
def decodeBare (w : OpWord) (i : Instr) : Except Invalid Instr :=
  if operandField w = 0#32 then .ok i else .error .nonzeroMbz

/-- The decoder: total, pure, one verdict for each of the 2^36 words (R65, R70). -/
def decode (w : OpWord) : Except Invalid Instr :=
  match (opField w).toNat with
  | 0 => decodeBare w .reset
  | 1 => if rxByteMbz w = 0#24 then .ok (.rxByte (dataField w)) else .error .nonzeroMbz
  | 2 => decodeBare w .txe
  | 3 => decodeBare w .tc
  | 4 => decodeBare w .timer
  | 5 => decodeBare w .tick
  | 6 => .ok (.pktSend (frameField w))
  | 7 => decodeBare w .pktRecv
  | _ => .error .reservedOp

/-- The op code of each operation (R60). -/
def opCode : Instr → BitVec 4
  | .reset => 0x0#4
  | .rxByte _ => 0x1#4
  | .txe => 0x2#4
  | .tc => 0x3#4
  | .timer => 0x4#4
  | .tick => 0x5#4
  | .pktSend _ => 0x6#4
  | .pktRecv => 0x7#4

/-- `operand = {f3, f2, f1, f0}` (R62). -/
def frameOperand (f : Frame) : BitVec 32 := f.b3 ++ f.b2 ++ f.b1 ++ f.b0

/-- The operand of each operation (R61 to R63). -/
def operandOf : Instr → BitVec 32
  | .rxByte data => 0#24 ++ data
  | .pktSend f => frameOperand f
  | .reset => 0#32
  | .txe => 0#32
  | .tc => 0#32
  | .timer => 0#32
  | .tick => 0#32
  | .pktRecv => 0#32

/-- The word of an operation: the operand above the op code (R59). -/
def encode (i : Instr) : OpWord := operandOf i ++ opCode i

/-- The operation word that `nbits` bits of `w` spell, if they fit the one length of 36 bits (R59, log 6). -/
def opWordOf (nbits w : Nat) : Option OpWord :=
  if w % 2 ^ nbits < 2 ^ 36 then some (BitVec.ofNat 36 (w % 2 ^ nbits)) else none

/-- What the decoder reads from a word numbered as spec/opcode_table.json numbers it. -/
def decodeTableWord (nbits w : Nat) : Option Instr :=
  match opWordOf nbits w with
  | some v => (decode v).toOption
  | none => none

end Sys2Proof
end

