-- ==== Sys2Proof/Machine/State.lean ====
section
/-! DEFINITION. The state of the CORE (10_state.md), its reset value (R36), and the reasons a step can stop. -/

namespace Sys2Proof.Machine

/-- The receive framer's state (R18): ten values. `nib k` is `NIB(k)`: two sync markers and `k` nibbles were received. -/
inductive RxState where
  | hunt
  | sync1
  | nib (k : Fin 8)
deriving DecidableEq, Repr

/-- The serializer's state (R22, R93): thirteen values. The first sync byte is sent by the step that leaves `idle` or `eof`,
so there is no resident first sync state. -/
inductive TxState where
  | idle
  | sync2
  | sync3
  | sync4
  | pay (k : Fin 8)
  | eof
deriving DecidableEq, Repr

/-- What an operation returns to its caller (R31, R66). -/
inductive OpResult where
  /-- PKT_SEND: `true` is accepted, `false` is busy. -/
  | sent (accepted : Bool)
  /-- PKT_RECV: the frame delivered, if any. -/
  | received (frame : Option Frame)
deriving DecidableEq, Repr

/-- A step's output record (R31). -/
structure Out where
  /-- `out.byte`: the byte written to the transmit data register, if one was. -/
  byte : Option Byte
  /-- `out.result`: the result returned, for PKT_SEND and PKT_RECV. -/
  result : Option OpResult
deriving DecidableEq, Repr

/-- The state: every field of 10_state.md, the last step's output record, and two fields of the model's own. -/
structure State where
  /-- `rx_state` (R18). -/
  rxState : RxState
  /-- `rx_buf`, the receive framer's assembly buffer (R19). -/
  rxBuf : Frame
  /-- `rx_slot`, the inbound single slot (R20). -/
  rxSlot : Frame
  /-- `rx_head` (R21). -/
  rxHead : Counter
  /-- `rx_tail` (R21). -/
  rxTail : Counter
  /-- `tx_state` (R22). -/
  txState : TxState
  /-- `tx_slot`, the outbound single slot (R23). -/
  txSlot : Frame
  /-- `tx_head` (R24). -/
  txHead : Counter
  /-- `tx_tail` (R24). -/
  txTail : Counter
  /-- `txe_ie`, the transmit-buffer-empty interrupt enable (R25). -/
  txeIe : Bool
  /-- `tc_ie`, the transmission-complete interrupt enable (R26). -/
  tcIe : Bool
  /-- `tx_enabled`, the transmitter is on (R27). -/
  txEnabled : Bool
  /-- `timer_armed`, the one-shot restart timer runs (R28). -/
  timerArmed : Bool
  /-- `initialised`, a RESET has happened (R29): 0 in `State.beforeReset`, 1 from the first RESET on. -/
  initialised : Bool
  /-- `out`, what the last step put out (R31, log 7). -/
  out : Out
  /-- MODEL's own: the operation words the environment still has to apply, oldest first (R149, log 4). -/
  ops : List OpWord
  /-- MODEL's own: how many free values RESET has drawn (R135, log 3). -/
  draws : Nat
deriving DecidableEq, Repr

/-- The CORE raises no exception and nothing in it is fatal (60_exceptions.md R119), so no step ends in a fault: the type has
no constructor. -/
inductive Fault where
deriving DecidableEq, Repr

/-- Why the model takes no step (R10, R128). Every reason is safe: it leaves a run out that the hardware cannot have, or a
word that spells nothing. -/
inductive Refusal where
  /-- An arm of `exec` without a meaning; no arm raises it. Safe. -/
  | notModelled (mnemonic : String)
  /-- `step`: the environment presents no operation word (log 4). Safe. -/
  | noOperation
  /-- `step`: the word's op code is reserved (R64, R128(a)). Safe. -/
  | reservedOp
  /-- `step`: the word has a must-be-zero bit set (R65, R128(a)). Safe. -/
  | nonzeroMbz
  /-- Every operation but RESET, before the first RESET (R128(b), R137). Safe. -/
  | notInitialised
  /-- TXE with `txe_ie = 0` (R128(c)). Safe. -/
  | txeNotEnabled
  /-- TC with `tc_ie = 0` (R128(d)). Safe. -/
  | tcNotEnabled
  /-- TIMER with `timer_armed = 0` (R128(e)). Safe. -/
  | timerNotArmed
deriving DecidableEq, Repr

/-- The machine right after RESET (R36). The three any-value fields hold the first three free draws (log 3); nothing is
presented yet (log 4). -/
def State.reset : State :=
  { rxState := .hunt
    rxBuf := Config.freeFrame 0
    rxSlot := Config.freeFrame 1
    rxHead := 0x00#8
    rxTail := 0x00#8
    txState := .idle
    txSlot := Config.freeFrame 2
    txHead := 0x00#8
    txTail := 0x00#8
    txeIe := false
    tcIe := false
    txEnabled := false
    timerArmed := false
    initialised := true
    out := { byte := none, result := none }
    ops := []
    draws := 3 }

/-- The machine before any operation: `initialised` is 0 (R29). The spec gives no other field of its own a value there, so the
other fields are those of `rest`, which is any state (log 25). No step has put anything out, no free value was drawn, and no
word waits. -/
def State.beforeReset (rest : State) : State :=
  { rest with
    initialised := false
    out := { byte := none, result := none }
    ops := []
    draws := 0 }

end Sys2Proof.Machine
end

