-- ==== Sys2Proof/Machine/Operands.lean ====
section
/-! DEFINITION. The pieces of a byte and of a frame that the operations use: bytes, nibbles in wire order, byte 0's two
fields, and the frame as 32 bits (20_memory.md R40 to R42, 30_encoding.md R53, R62, R67). -/

namespace Sys2Proof

/-- `b[3:0]`, carried first (R42). -/
def lowNibble (b : Byte) : Nibble := b.extractLsb' 0 4

/-- `b[7:4]`, carried second (R42). -/
def highNibble (b : Byte) : Nibble := b.extractLsb' 4 4

/-- `b[3:0] <- n`; the other half stays (R85). -/
def setLowNibble (b : Byte) (n : Nibble) : Byte := highNibble b ++ n

/-- `b[7:4] <- n`; the other half stays (R85). -/
def setHighNibble (b : Byte) (n : Nibble) : Byte := n ++ lowNibble b

/-- `f.byte(i)` (R11). -/
def Frame.byte (f : Frame) (i : Fin 4) : Byte :=
  match i with
  | 0 => f.b0
  | 1 => f.b1
  | 2 => f.b2
  | 3 => f.b3

/-- Frame `f` with byte `i` replaced. -/
def Frame.setByte (f : Frame) (i : Fin 4) (b : Byte) : Frame :=
  match i with
  | 0 => { f with b0 := b }
  | 1 => { f with b1 := b }
  | 2 => { f with b2 := b }
  | 3 => { f with b3 := b }

/-- `k >> 1`: the byte that nibble `k` is part of (R42, R85, R99). -/
def byteOfNibble (k : Fin 8) : Fin 4 := ⟨k.val >>> 1, by have := k.isLt; omega⟩

/-- `k[0]`: whether nibble `k` is a high half (R42, R85, R99). -/
def isHighNibble (k : Fin 8) : Bool := k.val.testBit 0

/-- Nibble `k` of a frame in wire order (R42). -/
def Frame.nibble (f : Frame) (k : Fin 8) : Nibble :=
  if isHighNibble k then highNibble (f.byte (byteOfNibble k)) else lowNibble (f.byte (byteOfNibble k))

/-- Nibble packing: nibble `k` of the frame becomes `n`, everything else stays (R85). -/
def Frame.setNibble (f : Frame) (k : Fin 8) (n : Nibble) : Frame :=
  let i := byteOfNibble k
  if isHighNibble k then f.setByte i (setHighNibble (f.byte i) n) else f.setByte i (setLowNibble (f.byte i) n)

/-- The eight nibbles in wire order (R42). -/
def Frame.nibbles (f : Frame) : List Nibble := (List.finRange 8).map f.nibble

/-- The payload field `f0[7:5]` (R53). -/
def payloadField (b0 : Byte) : BitVec 3 := b0.extractLsb' 5 3

/-- The check field `f0[4:0]` (R53). -/
def checkField (b0 : Byte) : Crc5 := b0.extractLsb' 0 5

/-- Byte 0 with its check field replaced by `c` (R79). -/
def withCheckField (b0 : Byte) (c : Crc5) : Byte := payloadField b0 ++ c

/-- The frame as 32 bits, byte 0 in the low bits (R62). -/
def Frame.bits (f : Frame) : BitVec 32 := f.b3 ++ f.b2 ++ f.b1 ++ f.b0

/-- The frame that 32 bits hold, byte 0 in the low bits (R62). -/
def Frame.ofBits (v : BitVec 32) : Frame :=
  { b0 := v.extractLsb' 0 8
    b1 := v.extractLsb' 8 8
    b2 := v.extractLsb' 16 8
    b3 := v.extractLsb' 24 8 }

/-- Frame `f` with bit `i` of its 32 changed. -/
def Frame.flipBit (f : Frame) (i : Fin 32) : Frame := Frame.ofBits (f.bits ^^^ BitVec.twoPow 32 i.val)

end Sys2Proof
end

