-- ==== Sys2Proof/Machine/Codec.lean ====
section
/-! DEFINITION. The line codec and the CRC5 remainder checker (40_codec_crc.md R71 to R80): pure functions of the
configuration and their arguments. -/

namespace Sys2Proof

open Config (Params)

/-- The three classes of a received byte (30_encoding.md R57). -/
inductive SymbolClass where
  | sync
  | nibble (n : Nibble)
  | invalid
deriving DecidableEq, Repr

/-- The sixteen nibbles, in rising order. -/
def allNibbles : List Nibble := (List.range 16).map (BitVec.ofNat 4)

/-- `encode_nibble(n)`: an argument of any width is masked to its low 4 bits (R71). -/
def encodeNibble (c : Params) {w : Nat} (n : BitVec w) : Byte := c.codebook (n.setWidth 4)

/-- `DECODE`, the inverse table of the codebook (R73). -/
def decodeTable (c : Params) (b : Byte) : Option Nibble := allNibbles.find? (fun n => c.codebook n == b)

/-- `decode_symbol(b)`: sync markers are recognised before the table lookup (R72, R74). -/
def decodeSymbol (c : Params) (b : Byte) : SymbolClass :=
  if c.syncRxSet b then .sync
  else
    match decodeTable c b with
    | some n => .nibble n
    | none => .invalid

/-- A frame's CRC under one of the two cores: the check field is forced to ones first (R76, R77). -/
def crcUnder (core : Byte → Byte → Byte → Byte → Crc5) (f : Frame) : Crc5 :=
  core (f.b0 ||| 0x1F#8) f.b1 f.b2 f.b3

/-- `crc5_tx(f)`, the sender's CRC (R76). -/
def crc5Tx (c : Params) (f : Frame) : Crc5 := crcUnder c.crc5TxCore f

/-- `crc5_rx(g)`, the receiver's CRC (R77). -/
def crc5Rx (c : Params) (g : Frame) : Crc5 := crcUnder c.crc5RxCore g

/-- `crc_check(g)`, the CRC remainder checker (R78). -/
def crcCheck (c : Params) (g : Frame) : Bool := crc5Rx c g == checkField g.b0

/-- `frame_for_send(f)`: byte 0 masked to its payload bits, the CRC put into the check field (43_packet_queue.md R112). -/
def frameForSend (c : Params) (f : Frame) : Frame :=
  let p := f.b0 &&& 0xE0#8
  let r := crc5Tx c { f with b0 := p }
  { f with b0 := p ||| r.setWidth 8 }

/-- The eight symbols of a frame in wire order (20_memory.md R42). -/
def wireSymbols (c : Params) (g : Frame) : List Byte := g.nibbles.map (encodeNibble c)

/-- The twelve bytes of a transmitted frame (30_encoding.md R55). -/
def wireFrame (c : Params) (g : Frame) : List Byte := List.replicate 4 c.syncCode ++ wireSymbols c g

/-- `RT`: sender and receiver use the same CRC core (R80). A named property, never assumed by the model. -/
def RT (c : Params) : Prop := c.crc5TxCore = c.crc5RxCore

/-- `DET1`: the receiver's CRC sees every one-bit change outside the check field (R80). A named property. -/
def DET1 (c : Params) : Prop :=
  ∀ (f : Frame) (i : Fin 32), 5 ≤ i.val → crc5Rx c (f.flipBit i) ≠ crc5Rx c f

/-- `DET2`: the same for every two-bit change (R80). A named property. -/
def DET2 (c : Params) : Prop :=
  ∀ (f : Frame) (i j : Fin 32), 5 ≤ i.val → 5 ≤ j.val → i ≠ j →
    crc5Rx c ((f.flipBit i).flipBit j) ≠ crc5Rx c f

/-- The eight data bits of a UART character, bit 0 first (20_memory.md R43; PRESUMED, G1, log 9). -/
def dataBits (b : Byte) : List Bool := (List.range 8).map b.getLsbD

/-- A whole UART character: a start bit at 0, the data bits, a stop bit at 1 (R43; PRESUMED, G1, log 9). -/
def uartCharacter (b : Byte) : List Bool := false :: (dataBits b ++ [true])

/-- Whether two neighbouring bits differ somewhere: the line has an edge. -/
def hasTransition : List Bool → Bool
  | a :: b :: rest => (a != b) || hasTransition (b :: rest)
  | _ => false

/-- The length of the longest stretch of equal bits, given the stretch that is running. -/
def longestRunFrom (level : Bool) (running : Nat) : List Bool → Nat
  | [] => running
  | b :: rest =>
    if b == level then longestRunFrom level (running + 1) rest
    else Nat.max running (longestRunFrom b 1 rest)

/-- The longest stretch of bit times without an edge. -/
def longestRun : List Bool → Nat
  | [] => 0
  | b :: rest => longestRunFrom b 1 rest

/-- P_TRANS (R58(e), R75): every symbol has an edge, and no stretch without one is longer than `MAX_RUN`. Whether the start
and stop bits count is open, so both readings are given (log 9). A named assumption; no rule reads it. -/
def PTrans (framingCounts : Bool) (c : Params) : Prop :=
  ∀ n : Nibble,
    let line := if framingCounts then uartCharacter (c.codebook n) else dataBits (c.codebook n)
    hasTransition line = true ∧ longestRun line ≤ c.maxRun

end Sys2Proof
end

