-- ==== Sys2Proof/Machine/Flags.lean ====
section
/-! DEFINITION. The pending predicates, the control flags and what writes them together, which operation is enabled, and the
views the environment has of the flags (10_state.md R25 to R32, 60_exceptions.md R124, R125, R128). -/

namespace Sys2Proof.Machine

/-- `rx_pending(s)`: an inbound frame awaits PKT_RECV (R30). -/
def State.rxPending (s : State) : Bool := s.rxHead != s.rxTail

/-- `tx_pending(s)`: the outbound slot is occupied (R30). -/
def State.txPending (s : State) : Bool := s.txHead != s.txTail

/-- The flags of `idle_disabled`: transmitter on, no further TXE, the restart timer armed (42_tx_framer.md R95). -/
def State.startIdleGap (s : State) : State :=
  { s with txEnabled := true, txeIe := false, timerArmed := true }

/-- The flags of a serializer with nothing more to send: TXE off, TC on (R97, R100). -/
def State.armCompletion (s : State) : State :=
  { s with txeIe := false, tcIe := true }

/-- The flags of TC: with a frame pending the timer is armed again, otherwise the transmitter goes off (R101). -/
def State.completeTransmission (s : State) : State :=
  if s.txPending then { s with tcIe := false, timerArmed := true } else { s with tcIe := false, txEnabled := false }

/-- The flags of TIMER: one-shot, and it enables TXE directly (R102). -/
def State.timerElapsed (s : State) : State :=
  { s with timerArmed := false, txeIe := true }

/-- `kick_if_idle()`: only a quiescent transmitter is kicked (43_packet_queue.md R113). -/
def State.kickIfIdle (s : State) : State :=
  if s.txEnabled then s else { s with txeIe := true }

/-- Why an operation cannot be applied in a state, if it cannot: R128(b) to (e), R124, R137. -/
def refusalOf (i : Instr) (s : State) : Option Refusal :=
  match i with
  | .reset => none
  | .txe => if !s.initialised then some .notInitialised else if s.txeIe then none else some .txeNotEnabled
  | .tc => if !s.initialised then some .notInitialised else if s.tcIe then none else some .tcNotEnabled
  | .timer => if !s.initialised then some .notInitialised else if s.timerArmed then none else some .timerNotArmed
  | .rxByte _ => if s.initialised then none else some .notInitialised
  | .tick => if s.initialised then none else some .notInitialised
  | .pktSend _ => if s.initialised then none else some .notInitialised
  | .pktRecv => if s.initialised then none else some .notInitialised

/-- Whether an operation is enabled in a state (R124, R128). -/
def enabled (i : Instr) (s : State) : Bool := (refusalOf i s).isNone

/-- The line as the transmitter drives it between bytes (42_tx_framer.md R106). The electrical levels are open (log 10). -/
inductive LineLevel where
  /-- The resting, non-transmitting level. -/
  | resting
  /-- The UART idle level with the radio keyed. -/
  | idleKeyed
deriving DecidableEq, Repr

/-- The line output as a view of `tx_enabled` (R27, R106). -/
def State.lineLevel (s : State) : LineLevel := if s.txEnabled then .idleKeyed else .resting

/-- The transceiver's set-up as a view of `initialised`: RESET, and nothing else, sets it (R135, R138, R139, log 8). -/
def State.uartSetup (s : State) : Option Config.UartSetup :=
  if s.initialised then some Config.params.uartSetup else none

end Sys2Proof.Machine
end

