-- ==== Sys2Proof/Machine/Ops.lean ====
section
/-! DEFINITION. The operations on the state that the meanings share: slots and counters (20_memory.md R40, R46, R52), the
output record (10_state.md R31), the RESET values (R36), presenting and fetching an operation word, and the one way an
operation takes its step or is refused (60_exceptions.md R127, R128).

The CORE has no trap: no operation saves a state, changes a mode or goes to a handler, and an interrupt operation returns by
ending (R119, R127). So there is no exception entry and no return to write; `perform` is where an operation either runs to
completion or is refused. -/

namespace Sys2Proof.Machine

/-- The output record of a step that emits nothing and returns nothing (R31). -/
def State.silent (s : State) : State := { s with out := { byte := none, result := none } }

/-- `emit(b)`: the step's byte output (R10, R31). -/
def State.emit (s : State) (b : Byte) : State := { s with out := { byte := some b, result := none } }

/-- `out.result <- r` (R31, R66). -/
def State.answer (s : State) (r : OpResult) : State := { s with out := { byte := none, result := some r } }

/-- `SlotRead(rx_slot)`: all four bytes (R40). -/
def State.readRxSlot (s : State) : Frame := s.rxSlot

/-- `SlotWrite(tx_slot, f)` (R40). -/
def State.writeTxSlot (s : State) (f : Frame) : State := { s with txSlot := f }

/-- A counter's only update: plus 1 modulo 256 (R52, R117). -/
def bump (v : Counter) : Counter := v + 1

/-- `rx_tail <- rx_tail + 1`. -/
def State.advanceRxTail (s : State) : State := { s with rxTail := bump s.rxTail }

/-- `tx_head <- tx_head + 1`. -/
def State.advanceTxHead (s : State) : State := { s with txHead := bump s.txHead }

/-- `tx_tail <- tx_tail + 1`. -/
def State.advanceTxTail (s : State) : State := { s with txTail := bump s.txTail }

/-- The state a RESET leaves (R36, R135). The any-value fields take free draws (log 3); the words still presented are the
environment's and stay. -/
def State.afterReset (s : State) : State :=
  { rxState := .hunt
    rxBuf := Config.freeFrame s.draws
    rxSlot := Config.freeFrame (s.draws + 1)
    rxHead := 0x00#8
    rxTail := 0x00#8
    txState := .idle
    txSlot := Config.freeFrame (s.draws + 2)
    txHead := 0x00#8
    txTail := 0x00#8
    txeIe := false
    tcIe := false
    txEnabled := false
    timerArmed := false
    initialised := true
    out := { byte := none, result := none }
    ops := s.ops
    draws := s.draws + 3 }

/-- One atomic step (R45, R127): the operation is refused for the reason R128 gives, or it leaves `after`. -/
def perform (i : Instr) (s after : State) : Host.Outcome State Fault Refusal :=
  match refusalOf i s with
  | some why => .refused why
  | none => .next after

/-- The environment presents an operation word to be applied next (log 4). -/
def State.present (s : State) (w : OpWord) : State := { s with ops := w :: s.ops }

/-- The word to be applied next, and the state in which it is no longer waiting (log 4). -/
def fetch (s : State) : Option (OpWord × State) :=
  match s.ops with
  | [] => none
  | w :: rest => some (w, { s with ops := rest })

/-- The refusal of a word that spells no operation (R64, R65, R128(a)). -/
def refusalOfInvalid : Invalid → Refusal
  | .reservedOp => .reservedOp
  | .nonzeroMbz => .nonzeroMbz

/-- The state that applies a table word next; a word of more than 36 bits is no operation word, and then nothing is waiting
(R59, log 6). -/
def State.presentTableWord (s : State) (nbits w : Nat) : State :=
  match opWordOf nbits w with
  | some v => s.present v
  | none => { s with ops := [] }

end Sys2Proof.Machine
end

