-- ==== Sys2Proof/Machine/PacketQueue.lean ====
section
/-! DEFINITION. The single-slot packet queues: PKT_SEND and PKT_RECV (43_packet_queue.md R111 to R118). -/

namespace Sys2Proof.Machine

open Config (Params)

/-- PKT_SEND's effect under a configuration (R111): busy changes nothing; otherwise populate, publish, kick. -/
def pktSendEffect (c : Params) (f : Frame) (s : State) : State :=
  if s.txPending then s.answer (.sent false)
  else ((s.writeTxSlot (frameForSend c f)).advanceTxHead.kickIfIdle).answer (.sent true)

/-- PKT_SEND (R111). -/
def execPktSend (f : Frame) (s : State) : Host.Outcome State Fault Refusal :=
  perform (.pktSend f) s (pktSendEffect Config.params f s)

/-- PKT_RECV's effect under a configuration (R114): the frame is consumed whether or not its CRC matches (R47, R115). -/
def pktRecvEffect (c : Params) (s : State) : State :=
  if !s.rxPending then s.answer (.received none)
  else
    let g := s.readRxSlot
    if crcCheck c g then s.advanceRxTail.answer (.received (some g)) else s.advanceRxTail.answer (.received none)

/-- PKT_RECV (R114). -/
def execPktRecv (s : State) : Host.Outcome State Fault Refusal :=
  perform .pktRecv s (pktRecvEffect Config.params s)

end Sys2Proof.Machine
end

