-- ==== Sys2Proof/Machine/RxFramer.lean ====
section
/-! DEFINITION. The receive framer and RX_BYTE (41_rx_framer.md R81 to R92). -/

namespace Sys2Proof.Machine

open Config (Params)

/-- The four fields the receive framer writes (R81): `(rx_state, rx_buf, rx_slot, rx_head)`. -/
structure RxFields where
  state : RxState
  buf : Frame
  slot : Frame
  head : Counter
deriving DecidableEq, Repr

/-- The receive framer's fields of a state. -/
def State.rxFields (s : State) : RxFields := { state := s.rxState, buf := s.rxBuf, slot := s.rxSlot, head := s.rxHead }

/-- Write the receive framer's fields back. -/
def State.withRxFields (s : State) (r : RxFields) : State :=
  { s with rxState := r.state, rxBuf := r.buf, rxSlot := r.slot, rxHead := r.head }

/-- Nibble packing into the assembly buffer (R85). -/
def RxFields.pack (r : RxFields) (k : Fin 8) (n : Nibble) : RxFields := { r with buf := r.buf.setNibble k n }

/-- Publish (R86): the slot takes the assembled frame; the head advances only when the slot was empty. -/
def RxFields.publish (r : RxFields) (tail : Counter) : RxFields :=
  { r with slot := r.buf, head := if r.head == tail then bump r.head else r.head }

/-- A sync marker (R82): from `SYNC_1` the framer is aligned, from anywhere else one marker has been seen. -/
def RxFields.onSync (r : RxFields) : RxFields :=
  match r.state with
  | .hunt => { r with state := .sync1 }
  | .sync1 => { r with state := .nib 0 }
  | .nib _ => { r with state := .sync1 }

/-- An invalid byte (R83): hunting goes on, a partial frame is dropped. -/
def RxFields.onInvalid (r : RxFields) : RxFields :=
  match r.state with
  | .hunt => r
  | .sync1 => r
  | .nib _ => { r with state := .hunt }

/-- A valid nibble (R84): noise outside a frame; inside, it is packed, and nibble 7 completes the frame. -/
def RxFields.onNibble (r : RxFields) (tail : Counter) (n : Nibble) : RxFields :=
  match r.state with
  | .hunt => r
  | .sync1 => { r with state := .hunt }
  | .nib k =>
    if k.val < 7 then { r.pack k n with state := .nib (k + 1) } else { (r.pack k n).publish tail with state := .hunt }

/-- `rx_next` (R81, table R91). Only the publish reads the tail counter. -/
def RxFields.next (r : RxFields) (tail : Counter) (cls : SymbolClass) : RxFields :=
  match cls with
  | .sync => r.onSync
  | .invalid => r.onInvalid
  | .nibble n => r.onNibble tail n

/-- RX_BYTE's effect under a configuration (R81). -/
def rxByteEffect (c : Params) (data : Byte) (s : State) : State :=
  (s.withRxFields (s.rxFields.next s.rxTail (decodeSymbol c data))).silent

/-- RX_BYTE (R81). -/
def execRxByte (data : Byte) (s : State) : Host.Outcome State Fault Refusal :=
  perform (.rxByte data) s (rxByteEffect Config.params data s)

end Sys2Proof.Machine
end

