-- ==== Sys2Proof/Machine/System.lean ====
section
/-! DEFINITION. RESET (70_reset_and_hazards.md R135). -/

namespace Sys2Proof.Machine

/-- RESET: always enabled, every field to its reset value. The transceiver's set-up (R139) is the view `State.uartSetup`. -/
def execReset (s : State) : Host.Outcome State Fault Refusal := perform .reset s s.afterReset

end Sys2Proof.Machine
end

