-- ==== Sys2Proof/Machine/TxFramer.lean ====
section
/-! DEFINITION. The transmit framer: the serializer's TXE, and the idle/restart sequencer's TC, TIMER and TICK
(42_tx_framer.md R93 to R110). -/

namespace Sys2Proof.Machine

open Config (Params)

/-- `idle_disabled` (R95). -/
def State.idleDisabled (s : State) : State := s.startIdleGap.silent

/-- The first sync byte of a frame (R96, R100). -/
def State.startFrame (c : Params) (s : State) : State := { s.emit c.syncCode with txState := .sync2 }

/-- `idle_nothing` (R97). -/
def State.idleNothing (s : State) : State := s.armCompletion.silent

/-- TXE in `IDLE` (R94). -/
def State.idleStep (c : Params) (s : State) : State :=
  if !s.txEnabled then s.idleDisabled
  else if s.txPending then s.startFrame c
  else s.idleNothing

/-- TXE in a sync state: a sync byte, then the state given (R98). -/
def State.syncStep (c : Params) (s : State) (after : TxState) : State := { s.emit c.syncCode with txState := after }

/-- `payload_step(k)` (R99): nibble `k` straight from the slot; nibble 7 frees the slot. -/
def State.payloadStep (c : Params) (s : State) (k : Fin 8) : State :=
  let sent := s.emit (encodeNibble c (s.txSlot.nibble k))
  if k.val < 7 then { sent with txState := .pay (k + 1) } else { sent.advanceTxTail with txState := .eof }

/-- `eof_step` (R100). -/
def State.eofStep (c : Params) (s : State) : State :=
  if c.txJoin && s.txPending then s.startFrame c else { s.armCompletion.silent with txState := .idle }

/-- TXE's effect under a configuration: dispatch on the serializer's state (R94). -/
def txeEffect (c : Params) (s : State) : State :=
  match s.txState with
  | .idle => s.idleStep c
  | .sync2 => s.syncStep c .sync3
  | .sync3 => s.syncStep c .sync4
  | .sync4 => s.syncStep c (.pay 0)
  | .pay k => s.payloadStep c k
  | .eof => s.eofStep c

/-- TXE (R94). -/
def execTxe (s : State) : Host.Outcome State Fault Refusal := perform .txe s (txeEffect Config.params s)

/-- TC (R101). -/
def execTc (s : State) : Host.Outcome State Fault Refusal := perform .tc s s.completeTransmission.silent

/-- TIMER (R102). -/
def execTimer (s : State) : Host.Outcome State Fault Refusal := perform .timer s s.timerElapsed.silent

/-- TICK: no state changes (R103). -/
def execTick (s : State) : Host.Outcome State Fault Refusal := perform .tick s s.silent

end Sys2Proof.Machine
end

