-- ==== Sys2Proof/Machine/Dispatch.lean ====
section
/-! DEFINITION. One arm for each operation of the opcode table. -/

namespace Sys2Proof.Machine

def exec (i : Instr) (s : State) : Host.Outcome State Fault Refusal :=
  match i with
  | .reset => Sys2Proof.Machine.execReset s
  | .rxByte data => Sys2Proof.Machine.execRxByte data s
  | .txe => Sys2Proof.Machine.execTxe s
  | .tc => Sys2Proof.Machine.execTc s
  | .timer => Sys2Proof.Machine.execTimer s
  | .tick => Sys2Proof.Machine.execTick s
  | .pktSend f => Sys2Proof.Machine.execPktSend f s
  | .pktRecv => Sys2Proof.Machine.execPktRecv s

end Sys2Proof.Machine
end

