-- ==== Sys2Proof/Machine/Step.lean ====
section
/-! DEFINITION. One step: take the operation word the environment presents next, decode it, apply it (30_encoding.md R70,
60_exceptions.md R128, log 4). -/

namespace Sys2Proof.Machine

/-- One step of the machine. -/
def step (s : State) : Host.Outcome State Fault Refusal :=
  match fetch s with
  | none => .refused .noOperation
  | some (w, s') =>
    match decode w with
    | .ok i => exec i s'
    | .error why => .refused (refusalOfInvalid why)

/-- The state whose next step applies the table word `w` (log 4, 6). -/
def State.withFetchWord (s : State) (nbits w : Nat) : State := s.presentTableWord nbits w

end Sys2Proof.Machine
end

