-- ==== Sys2Proof/Machine/Pseudo.lean ====
section
/-! DEFINITION. The pseudo-operations (30_encoding.md R69) and the operation-sequence syntax (R68). Both are the spec's own
notation: they spell operations and have no op code of their own. -/

namespace Sys2Proof.Machine

open Config (Params)

/-- `RX_SYNC4` (R69). -/
def rxSync4 (c : Params) : List Instr := List.replicate 4 (.rxByte c.syncCode)

/-- `RX_SYMBOLS f` (R69). -/
def rxSymbols (c : Params) (f : Frame) : List Instr := (wireSymbols c f).map .rxByte

/-- `RX_FRAME f` (R69). -/
def rxFrame (c : Params) (f : Frame) : List Instr := rxSync4 c ++ rxSymbols c f

/-- `TX_RUN_QUIESCENT` (R69). -/
def txRunQuiescent : List Instr := .txe :: .timer :: (List.replicate 13 .txe ++ [.tc])

/-- A byte as a program line writes it: a number, `CODEBOOK[n]` or `SYNC_CODE` (R68). -/
inductive ByteExpr where
  | literal (b : Byte)
  | codebook (n : Nibble)
  | syncCode
deriving DecidableEq, Repr

/-- An operation as a program line writes it (R68). -/
inductive AsmOp where
  | reset
  | rxByte (data : ByteExpr)
  | txe
  | tc
  | timer
  | tick
  | pktSend (b0 b1 b2 b3 : ByteExpr)
  | pktRecv
deriving DecidableEq, Repr

/-- A program line: the operation, the stated `=> <result>`, the stated `-> <byte>`, and the comment after `;` (R68). -/
structure AsmLine where
  op : AsmOp
  statedResult : Option OpResult
  statedByte : Option ByteExpr
  comment : Option String
deriving DecidableEq, Repr

/-- The byte that an expression stands for. -/
def ByteExpr.value (c : Params) : ByteExpr → Byte
  | .literal b => b
  | .codebook n => c.codebook n
  | .syncCode => c.syncCode

/-- The operation that a line's mnemonic and operand stand for. -/
def AsmOp.instr (c : Params) : AsmOp → Instr
  | .reset => .reset
  | .rxByte data => .rxByte (data.value c)
  | .txe => .txe
  | .tc => .tc
  | .timer => .timer
  | .tick => .tick
  | .pktSend b0 b1 b2 b3 => .pktSend ⟨b0.value c, b1.value c, b2.value c, b3.value c⟩
  | .pktRecv => .pktRecv

/-- Whether a step's output is what the line states; a line that states nothing accepts any output. -/
def AsmLine.accepts (c : Params) (l : AsmLine) (o : Out) : Bool :=
  (match l.statedResult with
    | none => true
    | some r => o.result == some r) &&
  (match l.statedByte with
    | none => true
    | some e => o.byte == some (e.value c))

/-- A number's hexadecimal digit. -/
def hexDigit (n : Nibble) : Char := if n.toNat < 10 then Char.ofNat (48 + n.toNat) else Char.ofNat (55 + n.toNat)

/-- A byte as `0x` and two digits (R8). -/
def hexByte (b : Byte) : String := "0x" ++ String.ofList [hexDigit (highNibble b), hexDigit (lowNibble b)]

/-- A byte expression's text. -/
def ByteExpr.text : ByteExpr → String
  | .literal b => hexByte b
  | .codebook n => "CODEBOOK[0x" ++ String.ofList [hexDigit n] ++ "]"
  | .syncCode => "SYNC_CODE"

/-- Text between curly braces, as a frame is written. -/
def braced (inside : String) : String := String.ofList [Char.ofNat 123] ++ inside ++ String.ofList [Char.ofNat 125]

/-- A frame's text. -/
def frameText (b0 b1 b2 b3 : String) : String := braced (b0 ++ ", " ++ b1 ++ ", " ++ b2 ++ ", " ++ b3)

/-- A result's text. -/
def OpResult.text : OpResult → String
  | .sent true => "true"
  | .sent false => "false"
  | .received none => "none"
  | .received (some f) => "some " ++ frameText (hexByte f.b0) (hexByte f.b1) (hexByte f.b2) (hexByte f.b3)

/-- An operation's text: its mnemonic and its operand, if it takes one. -/
def AsmOp.text : AsmOp → String
  | .reset => "RESET"
  | .rxByte data => "RX_BYTE " ++ data.text
  | .txe => "TXE"
  | .tc => "TC"
  | .timer => "TIMER"
  | .tick => "TICK"
  | .pktSend b0 b1 b2 b3 => "PKT_SEND " ++ frameText b0.text b1.text b2.text b3.text
  | .pktRecv => "PKT_RECV"

/-- A line's text (R68). -/
def AsmLine.text (l : AsmLine) : String :=
  l.op.text ++
  (match l.statedByte with
    | none => ""
    | some e => " -> " ++ e.text) ++
  (match l.statedResult with
    | none => ""
    | some r => " => " ++ r.text) ++
  (match l.comment with
    | none => ""
    | some t => " ; " ++ t)

end Sys2Proof.Machine
end

