-- ==== Sys2Proof/Safety.lean ====
section
/-! DEFINITION. What claims about the machine are stated in: runs, the spec's invariants, quiescence, the two halves, and the
bytes no operation can observe. -/

namespace Sys2Proof.Machine

open Config (Params)

/-- A run: the operations in order, each enabled when applied (70_reset_and_hazards.md R149). `none` where one is refused;
otherwise every step's output record and the state at the end. -/
def run : List Instr → State → Option (List Out × State)
  | [], s => some ([], s)
  | i :: rest, s =>
    match exec i s with
    | .next t =>
      match run rest t with
      | some (outs, u) => some (t.out :: outs, u)
      | none => none
    | .fault _ => none
    | .refused _ => none

/-- A run of the CORE as 70_reset_and_hazards.md R149 defines it: from the state before any operation (10_state.md R29),
starting with RESET, each operation enabled when applied. -/
def runFromStart (is : List Instr) (rest : State) : Option (List Out × State) :=
  match is with
  | .reset :: _ => run is (State.beforeReset rest)
  | _ => none

/-- A program that applies a refused operation is ill-formed (00_scope.md R10, 60_exceptions.md R128). -/
def programWellFormed (is : List Instr) (s : State) : Bool := (run is s).isSome

/-- The transmitted byte stream of a run (10_state.md R31). -/
def byteStream (outs : List Out) : List Byte := outs.filterMap (·.byte)

/-- The counter invariant (10_state.md R33): at most one frame is pending in each direction. -/
structure CounterInv (s : State) : Prop where
  rx : s.rxHead - s.rxTail = 0#8 ∨ s.rxHead - s.rxTail = 1#8
  tx : s.txHead - s.txTail = 0#8 ∨ s.txHead - s.txTail = 1#8

/-- The transmit control invariant (10_state.md R34), clause by clause. -/
structure TxControlInv (s : State) : Prop where
  /-- (a) At most one of the three enables is 1. -/
  exclusive : ¬(s.txeIe = true ∧ s.tcIe = true) ∧ ¬(s.txeIe = true ∧ s.timerArmed = true) ∧
    ¬(s.tcIe = true ∧ s.timerArmed = true)
  /-- (b) TC or the timer only with the transmitter on. -/
  onWhileWaiting : s.tcIe = true ∨ s.timerArmed = true → s.txEnabled = true
  /-- (c) A serializer that is not idle is driven and on. -/
  drivenUnlessIdle : s.txState ≠ .idle → s.txeIe = true ∧ s.txEnabled = true
  /-- (d) A sync or payload state has its frame in the slot. -/
  frameInSlot : s.txState ≠ .idle → s.txState ≠ .eof → s.txPending = true
  /-- (e) A transmitter that is off is idle and waits for nothing. -/
  offIsIdle : s.txEnabled = false → s.txState = .idle ∧ s.tcIe = false ∧ s.timerArmed = false

/-- Why the serializer is never driven without work (the ground of 42_tx_framer.md R97's "not reachable from RESET") and never
left waiting for nothing (the ground of R107). -/
structure TxDriveInv (s : State) : Prop where
  /-- An idle serializer that is driven has a frame to send. -/
  drivenIdleHasFrame : s.txState = .idle → s.txeIe = true → s.txPending = true
  /-- The timer runs only for a frame. -/
  timerHasFrame : s.timerArmed = true → s.txPending = true
  /-- A transmitter that is on, or a frame that is pending, has an event to come. -/
  eventToCome : s.txEnabled = true ∨ s.txPending = true → s.txeIe = true ∨ s.tcIe = true ∨ s.timerArmed = true

/-- The CORE is quiescent (70_reset_and_hazards.md R149). -/
def quiescent (s : State) : Bool :=
  !s.txEnabled && !s.txeIe && !s.tcIe && !s.timerArmed && decide (s.txState = .idle) && !s.txPending

/-- The interrupt operations of the transmit half. -/
def transmitEvents : List Instr := [.txe, .tc, .timer]

/-- The operations are applied in order, and at each point the one applied is the only transmit event enabled (R104). -/
def forced : List Instr → State → Prop
  | [], _ => True
  | i :: rest, s =>
    (∀ j ∈ transmitEvents, enabled j s = decide (j = i)) ∧ ∃ t, exec i s = .next t ∧ forced rest t

/-- The operations of the receive half (41_rx_framer.md R90). -/
def inReceiveHalf : Instr → Bool
  | .rxByte _ => true
  | .pktRecv => true
  | .reset => false
  | .txe => false
  | .tc => false
  | .timer => false
  | .tick => false
  | .pktSend _ => false

/-- The operations of the transmit half. -/
def inTransmitHalf : Instr → Bool
  | .txe => true
  | .tc => true
  | .timer => true
  | .pktSend _ => true
  | .reset => false
  | .rxByte _ => false
  | .tick => false
  | .pktRecv => false

/-- The receive half's fields are the same. -/
structure SameReceiveHalf (s t : State) : Prop where
  rxState : t.rxState = s.rxState
  rxBuf : t.rxBuf = s.rxBuf
  rxSlot : t.rxSlot = s.rxSlot
  rxHead : t.rxHead = s.rxHead
  rxTail : t.rxTail = s.rxTail

/-- The transmit half's fields, the control flags among them, are the same. -/
structure SameTransmitHalf (s t : State) : Prop where
  txState : t.txState = s.txState
  txSlot : t.txSlot = s.txSlot
  txHead : t.txHead = s.txHead
  txTail : t.txTail = s.txTail
  txeIe : t.txeIe = s.txeIe
  tcIe : t.tcIe = s.tcIe
  txEnabled : t.txEnabled = s.txEnabled
  timerArmed : t.timerArmed = s.timerArmed

/-- The fields of neither half are the same: `initialised` and the model's own two. -/
structure SameRest (s t : State) : Prop where
  initialised : t.initialised = s.initialised
  ops : t.ops = s.ops
  draws : t.draws = s.draws

/-- Two states that differ at most in what no operation can observe (10_state.md R37): the inbound slot while no frame is
pending, the outbound slot while none is, the assembly buffer's nibbles that the frame in progress has not brought yet, and
how many free values were drawn. -/
structure SameButUnobservable (s t : State) : Prop where
  rxState : t.rxState = s.rxState
  rxHead : t.rxHead = s.rxHead
  rxTail : t.rxTail = s.rxTail
  txState : t.txState = s.txState
  txHead : t.txHead = s.txHead
  txTail : t.txTail = s.txTail
  txeIe : t.txeIe = s.txeIe
  tcIe : t.tcIe = s.tcIe
  txEnabled : t.txEnabled = s.txEnabled
  timerArmed : t.timerArmed = s.timerArmed
  initialised : t.initialised = s.initialised
  out : t.out = s.out
  ops : t.ops = s.ops
  rxSlot : s.rxPending = true → t.rxSlot = s.rxSlot
  txSlot : s.txPending = true → t.txSlot = s.txSlot
  rxBuf : ∀ k, s.rxState = .nib k → ∀ j : Fin 8, j < k → t.rxBuf.nibble j = s.rxBuf.nibble j

/-- The state with each direction's two counters moved on by the same amount (43_packet_queue.md R117). -/
def shiftCounters (rxBy txBy : Counter) (s : State) : State :=
  { s with rxHead := s.rxHead + rxBy, rxTail := s.rxTail + rxBy, txHead := s.txHead + txBy, txTail := s.txTail + txBy }

/-- An outcome with its next state changed. -/
def mapNext (g : State → State) : Host.Outcome State Fault Refusal → Host.Outcome State Fault Refusal
  | .next s => .next (g s)
  | .fault r => .fault r
  | .refused r => .refused r

end Sys2Proof.Machine
end

