-- ==== Sys2Proof/Certificates/Slice0/Obligations.lean ====
section
/-! DEFINITION. The statements about the machine, from the numbered rules of spec/. A statement about `exec` holds for every
configuration that meets the constraints of 30_encoding.md R58, since the machine's configuration is opaque. -/

open Sys2Proof Sys2Proof.Machine
open Sys2Proof.Config (Params params)

/-! ## Encoding -/

/-- The derived decode vectors of 95_test_vectors.md 2.1: every word of that table, with the verdict the table gives it. -/
def Obligations.DecodeVectorsOfTheSpec : Prop :=
  decode 0x000000000#36 = .ok .reset ∧
  decode 0x0000005A1#36 = .ok (.rxByte 0x5A#8) ∧
  decode 0x000000FF1#36 = .ok (.rxByte 0xFF#8) ∧
  decode 0x000000001#36 = .ok (.rxByte 0x00#8) ∧
  decode 0x000001001#36 = .error .nonzeroMbz ∧
  decode 0x000000002#36 = .ok .txe ∧
  decode 0x000000012#36 = .error .nonzeroMbz ∧
  decode 0x000000003#36 = .ok .tc ∧
  decode 0x000000004#36 = .ok .timer ∧
  decode 0x000000005#36 = .ok .tick ∧
  decode 0x003F01A06#36 = .ok (.pktSend ⟨0xA0#8, 0x01#8, 0x3F#8, 0x00#8⟩) ∧
  decode 0xFFFFFFFF6#36 = .ok (.pktSend ⟨0xFF#8, 0xFF#8, 0xFF#8, 0xFF#8⟩) ∧
  decode 0x000000006#36 = .ok (.pktSend ⟨0x00#8, 0x00#8, 0x00#8, 0x00#8⟩) ∧
  decode 0x000000007#36 = .ok .pktRecv ∧
  decode 0x100000007#36 = .error .nonzeroMbz ∧
  decode 0x000000008#36 = .error .reservedOp ∧
  decode 0x00000000F#36 = .error .reservedOp ∧
  decode 0xFFFFFFFFF#36 = .error .reservedOp

/-- 30_encoding.md R61: RX_BYTE's word is `zext_36({data, 0x1})`; among the words with op 0x1, the data byte is `w[11:4]` and
`w[35:12]` must be zero. -/
def Obligations.RxByteWordHoldsItsData : Prop :=
  (∀ data : Byte, encode (.rxByte data) = BitVec.setWidth 36 (data ++ 0x1#4)) ∧
  (∀ w : OpWord, w.extractLsb' 0 4 = 0x1#4 →
    decode w = if w.extractLsb' 12 24 = 0#24 then .ok (.rxByte (w.extractLsb' 4 8)) else .error .nonzeroMbz) ∧
  encode (.rxByte 0x5A#8) = 0x0000005A1#36

/-- 30_encoding.md R62: PKT_SEND's frame is packed with byte 0 in the low bits, every operand is legal, the check-field bits
of byte 0 change nothing, and the rule's example word. -/
def Obligations.PktSendWordHoldsItsFrame : Prop :=
  (∀ w : OpWord, w.extractLsb' 0 4 = 0x6#4 →
    decode w = .ok (.pktSend ⟨w.extractLsb' 4 8, w.extractLsb' 12 8, w.extractLsb' 20 8, w.extractLsb' 28 8⟩)) ∧
  (∀ f : Frame, operandField (encode (.pktSend f)) = f.b3 ++ f.b2 ++ f.b1 ++ f.b0) ∧
  (∀ (f : Frame) (k : Crc5) (s : State),
    exec (.pktSend { f with b0 := withCheckField f.b0 k }) s = exec (.pktSend f) s) ∧
  encode (.pktSend ⟨0xA0#8, 0x01#8, 0x3F#8, 0x00#8⟩) = 0x003F01A06#36

/-- Every operation decodes from its own word, whatever its operand. -/
def Obligations.DecodeOfEncode : Prop :=
  ∀ i : Instr, decode (encode i) = .ok i

/-- No other word decodes to an operation: the encoding drops no bit of the word. -/
def Obligations.EncodeOfDecode : Prop :=
  ∀ (w : OpWord) (i : Instr), decode w = .ok i → encode i = w

/-- 30_encoding.md R64 and R65: exactly the words with op 0x8 to 0xF are `reserved_op`, exactly the words with a set
must-be-zero bit are `nonzero_mbz`, and the model takes no step for either. -/
def Obligations.InvalidWordsAreRefused : Prop :=
  ∀ w : OpWord,
    (decode w = .error .reservedOp ↔ 8 ≤ (w.extractLsb' 0 4).toNat) ∧
    (decode w = .error .nonzeroMbz ↔
      (w.extractLsb' 0 4 = 0x1#4 ∧ w.extractLsb' 12 24 ≠ 0#24) ∨
      ((w.extractLsb' 0 4).toNat ∈ [0, 2, 3, 4, 5, 7] ∧ w.extractLsb' 4 32 ≠ 0#32)) ∧
    (∀ (s : State) (rest : List OpWord), s.ops = w :: rest →
      (decode w = .error .reservedOp → step s = .refused .reservedOp) ∧
      (decode w = .error .nonzeroMbz → step s = .refused .nonzeroMbz))

/-- A word spells an operation exactly when a row of spec/opcode_table.json covers it, and no word lies in two rows. -/
def Obligations.OpcodeTableDecides : Prop :=
  (∀ w : OpWord, (∃ i, decode w = .ok i) ↔ wordWellFormed w = true) ∧
  (∀ w : OpWord, ∀ r ∈ opcodeTable, ∀ q ∈ opcodeTable, r.covers w = true → q.covers w = true → r = q)

/-- A step applies the operation that the waiting word decodes to, in the state without that word; with no word waiting the
machine takes no step (the model's own interface, log 4). -/
def Obligations.StepAppliesTheDecodedOperation : Prop :=
  (∀ (s : State) (w : OpWord) (rest : List OpWord) (i : Instr), s.ops = w :: rest → decode w = .ok i →
    step s = exec i { s with ops := rest }) ∧
  (∀ s : State, s.ops = [] → step s = .refused .noOperation)

/-! ## Configuration, codec and CRC -/

/-- 30_encoding.md R58(a) to (d): the machine's configuration meets the constraints. -/
def Obligations.ConfigurationMeetsConstraints : Prop :=
  (∀ m n : Nibble, params.codebook m = params.codebook n → m = n) ∧
  (∀ n : Nibble, params.codebook n ≠ params.syncCode) ∧
  (∀ b : Byte, ¬(params.syncRxSet b = true ∧ ∃ n, params.codebook n = b)) ∧
  params.syncRxSet params.syncCode = true

/-- 40_codec_crc.md R73: `DECODE` is the inverse of the codebook, and decoding an encoded nibble gives its low 4 bits back. -/
def Obligations.DecodeTableInvertsCodebook : Prop :=
  ∀ c : Params, c.legal = true →
    (∀ (b : Byte) (n : Nibble), c.codebook n = b → decodeTable c b = some n) ∧
    (∀ b : Byte, (∀ n : Nibble, c.codebook n ≠ b) → decodeTable c b = none) ∧
    (∀ (w : Nat) (n : BitVec w), decodeSymbol c (encodeNibble c n) = .nibble (n.setWidth 4))

/-- 40_codec_crc.md R74: no byte is both a sync marker and a nibble, so testing the table first gives the same class. -/
def Obligations.SyncTestOrderDoesNotMatter : Prop :=
  ∀ c : Params, c.legal = true → ∀ b : Byte,
    ¬(c.syncRxSet b = true ∧ ∃ n, decodeTable c b = some n) ∧
    decodeSymbol c b =
      match decodeTable c b with
      | some n => .nibble n
      | none => if c.syncRxSet b then .sync else .invalid

/-- 30_encoding.md R57: the condition of each class, and how many of the 256 byte values fall into it. -/
def Obligations.SymbolClassesPartitionBytes : Prop :=
  ∀ c : Params, c.legal = true →
    (∀ b : Byte,
      (decodeSymbol c b = .sync ↔ c.syncRxSet b = true) ∧
      (∀ n, decodeSymbol c b = .nibble n ↔ c.codebook n = b) ∧
      (decodeSymbol c b = .invalid ↔ c.syncRxSet b = false ∧ ∀ n, c.codebook n ≠ b)) ∧
    (let bytes : List Byte := (List.range 256).map (BitVec.ofNat 8)
     bytes.countP (fun b => decide (∃ n, decodeSymbol c b = .nibble n)) = 16 ∧
     bytes.countP (fun b => decide (decodeSymbol c b = .invalid)) = 240 - bytes.countP (fun b => c.syncRxSet b))

/-- 40_codec_crc.md R79: neither CRC depends on the check field. -/
def Obligations.CrcIgnoresCheckField : Prop :=
  ∀ (c : Params) (f : Frame) (k : Crc5),
    crc5Tx c { f with b0 := withCheckField f.b0 k } = crc5Tx c f ∧
    crc5Rx c { f with b0 := withCheckField f.b0 k } = crc5Rx c f ∧
    withCheckField f.b0 k ||| 0x1F#8 = f.b0 ||| 0x1F#8

/-- 43_packet_queue.md R112: the frame that goes into the slot keeps the payload bits and bytes 1 to 3, its check field is the
CRC of the caller's frame, and OR and XOR put it there alike. -/
def Obligations.FrameForSendCarriesItsCrc : Prop :=
  ∀ (c : Params) (f : Frame),
    frameForSend c f =
      { f with b0 := (f.b0 &&& 0xE0#8) ||| (crc5Tx c { f with b0 := f.b0 &&& 0xE0#8 }).setWidth 8 } ∧
    payloadField (frameForSend c f).b0 = payloadField f.b0 ∧
    checkField (frameForSend c f).b0 = crc5Tx c f ∧
    (frameForSend c f).b0 = (f.b0 &&& 0xE0#8) ^^^ (crc5Tx c f).setWidth 8

/-- 40_codec_crc.md R78, R80: what the receiver's check says of a sent frame, under any two cores and under `RT`, also when
the check field was changed on the way. -/
def Obligations.SentFramePassesCheckUnderRT : Prop :=
  (∀ (c : Params) (f : Frame),
    let g := frameForSend c f
    crcCheck c g = (c.crc5RxCore (g.b0 ||| 0x1F#8) g.b1 g.b2 g.b3 == c.crc5TxCore (g.b0 ||| 0x1F#8) g.b1 g.b2 g.b3)) ∧
  (∀ c : Params, RT c → ∀ f : Frame, crcCheck c (frameForSend c f) = true) ∧
  (∀ c : Params, RT c → ∀ (f : Frame) (k : Crc5),
    crcCheck c { frameForSend c f with b0 := withCheckField f.b0 k } = true ↔ k = crc5Tx c f)

/-! ## Reset and refusal -/

/-- 10_state.md R36, 70_reset_and_hazards.md R135: RESET runs in every state and leaves every field at its reset value; the
any-value fields are not constrained. Three clauses rest on the model's own reading: that the words still waiting stay (the
model's choice, log 4), that the line rests (the view of log 10), and that the transceiver is then set up as R139 says (the view
of log 8). -/
def Obligations.ResetGivesResetValues : Prop :=
  ∀ s : State, ∃ t, exec .reset s = .next t ∧
    t.rxState = .hunt ∧ t.rxHead = 0x00#8 ∧ t.rxTail = 0x00#8 ∧
    t.txState = .idle ∧ t.txHead = 0x00#8 ∧ t.txTail = 0x00#8 ∧
    t.txeIe = false ∧ t.tcIe = false ∧ t.txEnabled = false ∧ t.timerArmed = false ∧ t.initialised = true ∧
    t.out = { byte := none, result := none } ∧ t.ops = s.ops ∧ t.lineLevel = .resting ∧
    t.uartSetup = some { baud := params.baud, dataBits := 8, parity := .none, stopBits := 1 }

/-- 70_reset_and_hazards.md R136: after RESET every enable is 0 and the timer is disarmed, RX_BYTE is enabled, and the
transmitter is quiescent. -/
def Obligations.AfterResetOnlyReceiveIsLive : Prop :=
  ∀ s t : State, exec .reset s = .next t →
    (t.txeIe = false ∧ t.tcIe = false ∧ t.timerArmed = false) ∧
    (∀ b : Byte, ∃ u, exec (.rxByte b) t = .next u) ∧ quiescent t = true

/-- The model's reset state is what RESET leaves where no free value was drawn before and no word waits (the model's choices of
log 3 and 4), so it is what the first RESET leaves, whatever the fields held before it (the model's choice of log 25). -/
def Obligations.ResetStateIsWhatResetLeaves : Prop :=
  (∀ s : State, s.draws = 0 → s.ops = [] → exec .reset s = .next State.reset) ∧
  (∀ rest : State, exec .reset (State.beforeReset rest) = .next State.reset)

/-- 70_reset_and_hazards.md R137: every operation other than RESET is refused until the first RESET. -/
def Obligations.RefusedBeforeFirstReset : Prop :=
  ∀ (i : Instr) (s : State), s.initialised = false → i ≠ .reset → exec i s = .refused .notInitialised

/-- 60_exceptions.md R128: an invalid word is refused, and an operation is refused exactly in the cases (b) to (e); otherwise
it takes its step. A program that applies a refused operation is ill-formed. -/
def Obligations.RefusedExactlyWhenNotEnabled : Prop :=
  (∀ (s : State) (w : OpWord) (rest : List OpWord) (e : Invalid), s.ops = w :: rest → decode w = .error e →
    ∃ why, step s = .refused why) ∧
  (∀ (i : Instr) (s : State),
    ((∃ why, exec i s = .refused why) ↔
      (s.initialised = false ∧ i ≠ .reset) ∨ (i = .txe ∧ s.txeIe = false) ∨ (i = .tc ∧ s.tcIe = false) ∨
      (i = .timer ∧ s.timerArmed = false)) ∧
    ((∃ why, exec i s = .refused why) ∨ ∃ t, exec i s = .next t)) ∧
  (∀ (before after : List Instr) (i : Instr) (s t : State) (outs : List Out), run before s = some (outs, t) →
    (∃ why, exec i t = .refused why) → programWellFormed (before ++ i :: after) s = false)

/-! ## Receive framer -/

/-- 41_rx_framer.md R91: RX_BYTE's complete table. In any initialised state it runs for any byte, with the next state the
class of the byte and `rx_state` give; nothing outside the row changes but the (empty) output. -/
def Obligations.RxByteFollowsItsTable : Prop :=
  ∀ (b : Byte) (s : State), s.initialised = true →
    exec (.rxByte b) s = .next
      (match decodeSymbol params b, s.rxState with
      | .sync, .hunt => { s with rxState := .sync1, out := ⟨none, none⟩ }
      | .sync, .sync1 => { s with rxState := .nib 0, out := ⟨none, none⟩ }
      | .sync, .nib _ => { s with rxState := .sync1, out := ⟨none, none⟩ }
      | .invalid, .hunt => { s with out := ⟨none, none⟩ }
      | .invalid, .sync1 => { s with out := ⟨none, none⟩ }
      | .invalid, .nib _ => { s with rxState := .hunt, out := ⟨none, none⟩ }
      | .nibble _, .hunt => { s with out := ⟨none, none⟩ }
      | .nibble _, .sync1 => { s with rxState := .hunt, out := ⟨none, none⟩ }
      | .nibble n, .nib k =>
        if k = 7 then
          { s with
            rxState := .hunt
            rxBuf := s.rxBuf.setNibble 7 n
            rxSlot := s.rxBuf.setNibble 7 n
            rxHead := if s.rxHead = s.rxTail then s.rxHead + 1 else s.rxHead
            out := ⟨none, none⟩ }
        else { s with rxState := .nib (k + 1), rxBuf := s.rxBuf.setNibble k n, out := ⟨none, none⟩ })

/-- 41_rx_framer.md R85: packing nibble `k` writes one half of byte `k >> 1`, low for even `k` and high for odd `k`; the other
half of that byte and the other bytes stay. -/
def Obligations.PackingWritesOneHalfByte : Prop :=
  ∀ (f : Frame) (k : Fin 8) (n : Nibble) (i : Fin 4),
    ((f.setNibble k n).byte i).extractLsb' 0 4 =
      (if i.val = k.val / 2 ∧ k.val % 2 = 0 then n else (f.byte i).extractLsb' 0 4) ∧
    ((f.setNibble k n).byte i).extractLsb' 4 4 =
      (if i.val = k.val / 2 ∧ k.val % 2 = 1 then n else (f.byte i).extractLsb' 4 4)

/-- 41_rx_framer.md R89: (a) from HUNT bytes that are no sync marker leave the framer in HUNT; (b) from HUNT or from a payload
state two sync markers align it; (c) from SYNC_1 they pass through the aligned state and end in SYNC_1. -/
def Obligations.TwoMarkersResynchronise : Prop :=
  (∀ (bs : List Byte) (s : State), s.initialised = true → s.rxState = .hunt → (∀ b ∈ bs, params.syncRxSet b = false) →
    ∃ outs t, run (bs.map .rxByte) s = some (outs, t) ∧ t.rxState = .hunt) ∧
  (∀ (a b : Byte) (s : State), s.initialised = true → params.syncRxSet a = true → params.syncRxSet b = true →
    ∃ t u, exec (.rxByte a) s = .next t ∧ exec (.rxByte b) t = .next u ∧
      (s.rxState ≠ .sync1 → t.rxState = .sync1 ∧ u.rxState = .nib 0) ∧
      (s.rxState = .sync1 → t.rxState = .nib 0 ∧ u.rxState = .sync1))

/-- 10_state.md R35: fed bytes from HUNT, the framer is in `NIB(k)` exactly when the last `k` bytes were valid nibbles and the
byte before them was a sync marker received in SYNC_1. -/
def Obligations.NibbleCountMatchesHistory : Prop :=
  ∀ (bs : List Byte) (s : State), s.initialised = true → s.rxState = .hunt →
    ∃ outs t, run (bs.map .rxByte) s = some (outs, t) ∧
      ∀ k : Fin 8, t.rxState = .nib k ↔
        ∃ (before : List Byte) (m : Byte) (last : List Byte),
          bs = before ++ m :: last ∧ last.length = k.val ∧ (∀ b ∈ last, ∃ n, params.codebook n = b) ∧
          params.syncRxSet m = true ∧
          ∃ outs' v, run (before.map .rxByte) s = some (outs', v) ∧ v.rxState = .sync1

/-- 30_encoding.md R56: fed bytes from HUNT, the framer publishes at a byte exactly when the last eight bytes are the symbols
of a frame and the byte before them was a sync marker received in SYNC_1. It then holds that frame, pending; at any other byte
the slot and its head counter stay. -/
def Obligations.PublishesExactlyWholeFrames : Prop :=
  ∀ (bs : List Byte) (b : Byte) (s : State), s.initialised = true → s.rxState = .hunt →
    ∃ outs t u, run (bs.map .rxByte) s = some (outs, t) ∧ exec (.rxByte b) t = .next u ∧
      (∀ (before : List Byte) (m : Byte) (g : Frame),
        bs ++ [b] = before ++ m :: wireSymbols params g → params.syncRxSet m = true →
        (∃ outs' v, run (before.map .rxByte) s = some (outs', v) ∧ v.rxState = .sync1) →
        u.rxSlot = g ∧ u.rxHead ≠ u.rxTail ∧ u.rxState = .hunt) ∧
      ((¬∃ (before : List Byte) (m : Byte) (g : Frame),
        bs ++ [b] = before ++ m :: wireSymbols params g ∧ params.syncRxSet m = true ∧
        ∃ outs' v, run (before.map .rxByte) s = some (outs', v) ∧ v.rxState = .sync1) →
        u.rxSlot = t.rxSlot ∧ u.rxHead = t.rxHead)

/-- 30_encoding.md R55, R56, 41_rx_framer.md R92(a), (b): the twelve bytes of a frame, received in any state but SYNC_1,
publish that frame; the head counter advances, modulo 256, only if the slot was empty. -/
def Obligations.WireFrameIsReceived : Prop :=
  ∀ (g : Frame) (s : State), s.initialised = true → s.rxState ≠ .sync1 →
    ∃ outs, run (rxFrame params g) s = some (outs,
      { s with
        rxState := .hunt
        rxBuf := g
        rxSlot := g
        rxHead := if s.rxHead = s.rxTail then s.rxHead + 1 else s.rxHead
        out := ⟨none, none⟩ })

/-- 70_reset_and_hazards.md R144: if the framer is in SYNC_1 when a frame's preamble begins, the preamble leaves it in SYNC_1,
the first payload nibble sends it to HUNT, and the frame is lost. -/
def Obligations.OddSyncCountLosesTheFrame : Prop :=
  ∀ (g : Frame) (s : State), s.initialised = true → s.rxState = .sync1 →
    (∃ outs t, run (rxSync4 params) s = some (outs, t) ∧ t.rxState = .sync1 ∧
      ∃ u, exec (.rxByte (params.codebook (g.nibble 0))) t = .next u ∧ u.rxState = .hunt) ∧
    ∃ outs, run (rxFrame params g) s = some (outs, { s with rxState := .hunt, out := ⟨none, none⟩ })

/-! ## Transmit framer -/

/-- 42_tx_framer.md R95: TXE in IDLE with the transmitter off. -/
def Obligations.TxeIdleDisabledArmsTimer : Prop :=
  ∀ s : State, s.initialised = true → s.txeIe = true → s.txState = .idle → s.txEnabled = false →
    exec .txe s = .next { s with txEnabled := true, txeIe := false, timerArmed := true, out := ⟨none, none⟩ }

/-- 42_tx_framer.md R96: TXE in IDLE with the transmitter on and a frame pending emits the first sync byte. -/
def Obligations.TxeIdleStartsFrame : Prop :=
  ∀ s : State, s.initialised = true → s.txeIe = true → s.txState = .idle → s.txEnabled = true → s.txHead ≠ s.txTail →
    exec .txe s = .next { s with txState := .sync2, out := ⟨some params.syncCode, none⟩ }

/-- 42_tx_framer.md R97: TXE in IDLE with the transmitter on and nothing pending arms completion; no state
reached from RESET is in this case. -/
def Obligations.TxeIdleNothingArmsCompletion : Prop :=
  (∀ s : State, s.initialised = true → s.txeIe = true → s.txState = .idle → s.txEnabled = true → s.txHead = s.txTail →
    exec .txe s = .next { s with txeIe := false, tcIe := true, out := ⟨none, none⟩ }) ∧
  (∀ (is : List Instr) (s t : State) (outs : List Out), run (.reset :: is) s = some (outs, t) →
    ¬(t.txeIe = true ∧ t.txState = .idle ∧ t.txEnabled = true ∧ t.txHead = t.txTail))

/-- 42_tx_framer.md R98: TXE in a sync state emits a sync byte and goes on; no flag changes. -/
def Obligations.TxeSyncEmitsSync : Prop :=
  ∀ s : State, s.initialised = true → s.txeIe = true →
    (s.txState = .sync2 → exec .txe s = .next { s with txState := .sync3, out := ⟨some params.syncCode, none⟩ }) ∧
    (s.txState = .sync3 → exec .txe s = .next { s with txState := .sync4, out := ⟨some params.syncCode, none⟩ }) ∧
    (s.txState = .sync4 → exec .txe s = .next { s with txState := .pay 0, out := ⟨some params.syncCode, none⟩ })

/-- 42_tx_framer.md R99: TXE in `PAY(k)` emits the symbol of one half of slot byte `k >> 1`, low for even `k`, high for odd;
nibble 7 also advances the tail, modulo 256, and ends the frame. -/
def Obligations.TxePayloadEmitsNibble : Prop :=
  ∀ (s : State) (k : Fin 8) (i : Fin 4), s.initialised = true → s.txeIe = true → s.txState = .pay k → i.val = k.val / 2 →
    exec .txe s = .next
      { s with
        txState := if k.val < 7 then .pay (k + 1) else .eof
        txTail := if k.val < 7 then s.txTail else s.txTail + 1
        out := ⟨some (params.codebook (if k.val % 2 = 0 then (s.txSlot.byte i).extractLsb' 0 4
          else (s.txSlot.byte i).extractLsb' 4 4)), none⟩ }

/-- 42_tx_framer.md R100: TXE in EOF joins a pending frame if the configuration says so, and otherwise arms completion. -/
def Obligations.TxeEofJoinsOrArmsCompletion : Prop :=
  ∀ s : State, s.initialised = true → s.txeIe = true → s.txState = .eof →
    exec .txe s = .next
      (if params.txJoin = true ∧ s.txHead ≠ s.txTail then { s with txState := .sync2, out := ⟨some params.syncCode, none⟩ }
      else { s with txState := .idle, txeIe := false, tcIe := true, out := ⟨none, none⟩ })

/-- 42_tx_framer.md R101: TC clears its enable and either arms the timer again or turns the transmitter off; with its enable
0, or before the first RESET, it is refused. -/
def Obligations.TcRearmsTimerOrDisables : Prop :=
  ∀ s : State,
    (s.initialised = true → s.tcIe = true → exec .tc s = .next
      (if s.txHead ≠ s.txTail then { s with tcIe := false, timerArmed := true, out := ⟨none, none⟩ }
      else { s with tcIe := false, txEnabled := false, out := ⟨none, none⟩ })) ∧
    (s.initialised = true → s.tcIe = false → exec .tc s = .refused .tcNotEnabled) ∧
    (s.initialised = false → exec .tc s = .refused .notInitialised)

/-- 42_tx_framer.md R102: TIMER disarms itself and enables TXE; disarmed, or before the first RESET, it is refused; in a state
reached from RESET the serializer is then idle and on, and the next TXE emits the pending frame's first sync byte. -/
def Obligations.TimerEnablesTxe : Prop :=
  (∀ s : State,
    (s.initialised = true → s.timerArmed = true →
      exec .timer s = .next { s with timerArmed := false, txeIe := true, out := ⟨none, none⟩ }) ∧
    (s.initialised = true → s.timerArmed = false → exec .timer s = .refused .timerNotArmed) ∧
    (s.initialised = false → exec .timer s = .refused .notInitialised)) ∧
  (∀ (is : List Instr) (s t : State) (outs : List Out), run (.reset :: is) s = some (outs, t) → t.timerArmed = true →
    t.txState = .idle ∧ t.txEnabled = true ∧
    ∃ u v, exec .timer t = .next u ∧ exec .txe u = .next v ∧ v.out = ⟨some params.syncCode, none⟩ ∧ v.txState = .sync2)

/-- 42_tx_framer.md R103: TICK leaves the state unchanged; its output is empty. -/
def Obligations.TickChangesNothing : Prop :=
  ∀ s : State, s.initialised = true → exec .tick s = .next { s with out := ⟨none, none⟩ }

/-! ## Packet queue -/

/-- 43_packet_queue.md R111, R113, 60_exceptions.md R120: PKT_SEND on an occupied slot answers busy and changes nothing;
otherwise it fills the slot, advances the head modulo 256, and kicks the serializer only if the transmitter is off. -/
def Obligations.PktSendDepositsOrIsBusy : Prop :=
  ∀ (f : Frame) (s : State), s.initialised = true →
    exec (.pktSend f) s = .next
      (if s.txHead ≠ s.txTail then { s with out := ⟨none, some (.sent false)⟩ }
      else
        { s with
          txSlot := frameForSend params f
          txHead := s.txHead + 1
          txeIe := if s.txEnabled = false then true else s.txeIe
          out := ⟨none, some (.sent true)⟩ })

/-- 43_packet_queue.md R114: PKT_RECV on an empty slot answers none; otherwise it consumes the frame and answers it exactly
when its CRC matches. -/
def Obligations.PktRecvConsumesTheFrame : Prop :=
  ∀ s : State, s.initialised = true →
    exec .pktRecv s = .next
      (if s.rxHead = s.rxTail then { s with out := ⟨none, some (.received none)⟩ }
      else
        { s with
          rxTail := s.rxTail + 1
          out := ⟨none, some (.received (if crcCheck params s.rxSlot then some s.rxSlot else none))⟩ })

/-- 43_packet_queue.md R115: only PKT_RECV delivers, it delivers only the pending frame and only if its CRC is its check
field; where the CRC does not match, the result is none and the frame is consumed. -/
def Obligations.UncheckedFrameIsNeverDelivered : Prop :=
  (∀ (i : Instr) (s t : State) (f : Frame), exec i s = .next t → t.out.result = some (.received (some f)) →
    i = .pktRecv ∧ s.rxPending = true ∧ f = s.rxSlot ∧ crc5Rx params f = checkField f.b0) ∧
  (∀ s : State, s.initialised = true → s.rxPending = true →
    ∃ t, exec .pktRecv s = .next t ∧ t.rxTail = s.rxTail + 1 ∧
      (crcCheck params s.rxSlot = false → t.out.result = some (.received none)))

/-- 43_packet_queue.md R116(b): after a PKT_RECV the next one returns none, until another frame is published. -/
def Obligations.PublishedFrameIsDeliveredOnce : Prop :=
  ∀ s t : State, CounterInv s → exec .pktRecv s = .next t →
    t.rxPending = false ∧ exec .pktRecv t = .next { t with out := ⟨none, some (.received none)⟩ }

/-! ## Invariants -/

/-- The three invariants hold right after reset. -/
def Obligations.InvariantsHoldAtReset : Prop :=
  CounterInv State.reset ∧ TxControlInv State.reset ∧ TxDriveInv State.reset

/-- 10_state.md R33: a step keeps both counter differences in 0 and 1. -/
def Obligations.StepKeepsCounterInvariant : Prop :=
  ∀ s t : State, CounterInv s → TxControlInv s → step s = .next t → CounterInv t

/-- 10_state.md R34: a step keeps (a) to (e). -/
def Obligations.StepKeepsTransmitControl : Prop :=
  ∀ s t : State, TxControlInv s → step s = .next t → TxControlInv t

/-- 42_tx_framer.md R97, R107: a step keeps that a driven idle serializer has a frame, that the timer runs only for a frame,
and that whatever is on or pending has an event to come. -/
def Obligations.StepKeepsTransmitDrive : Prop :=
  ∀ s t : State, TxControlInv s → TxDriveInv s → step s = .next t → TxDriveInv t

/-- 10_state.md R33, R34: in every state a run reaches from RESET, whatever state RESET was applied in, at most one frame is
pending in each direction, and the transmit control invariant holds clause by clause. -/
def Obligations.EveryStateReachedFromReset : Prop :=
  ∀ (is : List Instr) (s t : State) (outs : List Out), run (.reset :: is) s = some (outs, t) →
    (t.rxHead - t.rxTail = 0#8 ∨ t.rxHead - t.rxTail = 1#8) ∧ (t.txHead - t.txTail = 0#8 ∨ t.txHead - t.txTail = 1#8) ∧
    ¬(t.txeIe = true ∧ t.tcIe = true) ∧ ¬(t.txeIe = true ∧ t.timerArmed = true) ∧ ¬(t.tcIe = true ∧ t.timerArmed = true) ∧
    (t.tcIe = true ∨ t.timerArmed = true → t.txEnabled = true) ∧
    (t.txState ≠ .idle → t.txeIe = true ∧ t.txEnabled = true) ∧
    (t.txState ≠ .idle → t.txState ≠ .eof → t.txPending = true) ∧
    (t.txEnabled = false → t.txState = .idle ∧ t.tcIe = false ∧ t.timerArmed = false)

/-- 42_tx_framer.md R107, 60_exceptions.md R126: a queued frame is sent. From any initialised state that meets the invariants
and has a frame pending, at most fifteen transmit events, each the only one enabled when its turn comes, emit the frame's wire
bytes to the last, all of them if the serializer had not begun it, and then the slot is free. -/
def Obligations.QueuedFrameIsSent : Prop :=
  ∀ s : State, s.initialised = true → CounterInv s → TxControlInv s → TxDriveInv s → s.txPending = true →
    ∃ events : List Instr, events.length ≤ 15 ∧ forced events s ∧ (∀ i ∈ events, i ∈ transmitEvents) ∧
      ∃ outs t, run events s = some (outs, t) ∧ t.txTail = s.txTail + 1 ∧ t.txPending = false ∧ t.txSlot = s.txSlot ∧
        t.txState = .eof ∧
        ∃ before : List Byte, before ++ byteStream outs = wireFrame params s.txSlot ∧
          (s.txState = .idle ∨ s.txState = .eof → before = [])

/-! ## Whole-machine rules -/

/-- 42_tx_framer.md R110, R107: while a frame is on the wire, or waits, no operation but RESET writes the slot or its head
counter, and only the payload step 7 frees it. -/
def Obligations.QueuedFrameStaysInItsSlot : Prop :=
  (∀ (i : Instr) (s t : State), exec i s = .next t → i ≠ .reset → TxControlInv s → s.txState ≠ .idle → s.txState ≠ .eof →
    t.txSlot = s.txSlot) ∧
  (∀ (i : Instr) (s t : State), exec i s = .next t → i ≠ .reset → s.txPending = true →
    t.txSlot = s.txSlot ∧ t.txHead = s.txHead ∧ (t.txTail ≠ s.txTail → i = .txe ∧ s.txState = .pay 7))

/-- 42_tx_framer.md R107, R110, 30_encoding.md R55, 70_reset_and_hazards.md R145: after PKT_SEND accepted a frame, and whatever
operations but RESET follow, the first twelve bytes emitted are that frame's wire bytes, in order; until the twelfth, the slot
keeps the frame and a further PKT_SEND is busy and changes nothing. -/
def Obligations.AcceptedFrameIsEmittedWhole : Prop :=
  ∀ (f : Frame) (is : List Instr) (s t u : State) (outs : List Out), TxControlInv s →
    exec (.pktSend f) s = .next t → t.out.result = some (.sent true) → .reset ∉ is → run is t = some (outs, u) →
    (byteStream outs).take 12 = (wireFrame params (frameForSend params f)).take (byteStream outs).length ∧
    ((byteStream outs).length < 12 → u.txSlot = frameForSend params f ∧
      ∀ g : Frame, exec (.pktSend g) u = .next { u with out := ⟨none, some (.sent false)⟩ })

/-- 42_tx_framer.md R108: without a TIMER no byte is emitted from a state with the transmitter off, nor after a TC. -/
def Obligations.NoByteWithoutIdleGap : Prop :=
  (∀ (is : List Instr) (s u : State) (outs : List Out), TxControlInv s → s.txEnabled = false → .timer ∉ is →
    run is s = some (outs, u) → byteStream outs = []) ∧
  (∀ (is : List Instr) (s t u : State) (outs : List Out), TxControlInv s → exec .tc s = .next t → .timer ∉ is →
    run is t = some (outs, u) → byteStream outs = [])

/-- 42_tx_framer.md R104: one frame from quiescent. After PKT_SEND the events of `TX_RUN_QUIESCENT` are, one after the other,
the only transmit events enabled; they emit the frame's twelve bytes and end quiescent. -/
def Obligations.OneFrameFromQuiescent : Prop :=
  ∀ (f : Frame) (s : State), s.initialised = true → TxControlInv s → s.txEnabled = false → s.txPending = false →
    ∃ t outs u, exec (.pktSend f) s = .next t ∧ t.out.result = some (.sent true) ∧ forced txRunQuiescent t ∧
      run txRunQuiescent t = some (outs, u) ∧
      byteStream outs = List.replicate 4 params.syncCode ++
        [params.codebook ((frameForSend params f).b0.extractLsb' 0 4), params.codebook ((frameForSend params f).b0.extractLsb' 4 4),
         params.codebook (f.b1.extractLsb' 0 4), params.codebook (f.b1.extractLsb' 4 4),
         params.codebook (f.b2.extractLsb' 0 4), params.codebook (f.b2.extractLsb' 4 4),
         params.codebook (f.b3.extractLsb' 0 4), params.codebook (f.b3.extractLsb' 4 4)] ∧
      quiescent u = true ∧ u.txTail = u.txHead

/-- 95_test_vectors.md W6, 40_codec_crc.md R80, 70_reset_and_hazards.md R146: the bytes that a quiescent sender emits for a
frame, received while no frame is pending and not in SYNC_1, are delivered once, as the frame that was sent, exactly when its
CRC matches at the receiver; under `RT` it always does. -/
def Obligations.SentFrameCrossesTheLink : Prop :=
  ∀ (f : Frame) (s r : State), s.initialised = true → TxControlInv s → s.txEnabled = false → s.txPending = false →
    r.initialised = true → r.rxState ≠ .sync1 → r.rxPending = false →
    ∃ t outs u, exec (.pktSend f) s = .next t ∧ run txRunQuiescent t = some (outs, u) ∧
      ∃ outs' v, run ((byteStream outs).map .rxByte ++ [.pktRecv, .pktRecv]) r = some (outs', v) ∧
        outs'.filterMap (·.result) =
          [.received (if crcCheck params (frameForSend params f) then some (frameForSend params f) else none),
           .received none] ∧
        (RT params → crcCheck params (frameForSend params f) = true)

/-- 43_packet_queue.md R116(c), 95_test_vectors.md P6: of two frames received with no PKT_RECV between them only the second is
taken, and once. -/
def Obligations.SecondFrameReplacesTheFirst : Prop :=
  ∀ (g h : Frame) (s : State), s.initialised = true → s.rxState ≠ .sync1 → s.rxPending = false →
    ∃ outs u, run (rxFrame params g ++ rxFrame params h ++ [.pktRecv, .pktRecv]) s = some (outs, u) ∧
      outs.filterMap (·.result) = [.received (if crcCheck params h then some h else none), .received none] ∧
      u.rxPending = false ∧ u.rxTail = s.rxTail + 1

/-- 70_reset_and_hazards.md R149: in a quiescent state no transmit event is enabled, and every other operation is. -/
def Obligations.QuiescentEnablesNoTransmitEvent : Prop :=
  ∀ (i : Instr) (s : State), s.initialised = true → quiescent s = true →
    ((∃ t, exec i s = .next t) ↔ i ≠ .txe ∧ i ≠ .tc ∧ i ≠ .timer)

/-- 41_rx_framer.md R90: the transmit half's operations neither write nor read the receive half's fields, and RX_BYTE and
PKT_RECV neither write nor read the transmit half's. "Not reading" says: in a state that differs only in the other half, the
operation runs too, puts out the same, and leaves its own half the same. -/
def Obligations.HalvesShareNoState : Prop :=
  (∀ (i : Instr) (s s' : State), inTransmitHalf i = true → exec i s = .next s' →
    SameReceiveHalf s s' ∧ SameRest s s' ∧
    ∀ t : State, SameTransmitHalf s t → t.initialised = s.initialised →
      ∃ t', exec i t = .next t' ∧ SameTransmitHalf s' t' ∧ t'.out = s'.out) ∧
  (∀ (i : Instr) (s s' : State), inReceiveHalf i = true → exec i s = .next s' →
    SameTransmitHalf s s' ∧ SameRest s s' ∧
    ∀ t : State, SameReceiveHalf s t → t.initialised = s.initialised →
      ∃ t', exec i t = .next t' ∧ SameReceiveHalf s' t' ∧ t'.out = s'.out)

/-- 60_exceptions.md R126, 41_rx_framer.md R90: an operation of one half and one of the other can change places; the state at
the end is the same but for the output record, and each step puts out what it did before. -/
def Obligations.HalvesCommute : Prop :=
  ∀ (i j : Instr) (s t u : State),
    (inReceiveHalf i = true ∧ inTransmitHalf j = true) ∨ (inTransmitHalf i = true ∧ inReceiveHalf j = true) →
    exec i s = .next t → exec j t = .next u →
    ∃ t' u', exec j s = .next t' ∧ exec i t' = .next u' ∧ t'.out = u.out ∧ u'.out = t.out ∧ { u' with out := u.out } = u

/-- 10_state.md R19 to R29, R48: which operation writes which field, and how; every other field stays. -/
def Obligations.EachFieldHasItsWriters : Prop :=
  ∀ (i : Instr) (s t : State), exec i s = .next t →
    t.ops = s.ops ∧ t.initialised = true ∧
    (i ≠ .reset →
      t.draws = s.draws ∧ t.initialised = s.initialised ∧
      ((∀ b, i ≠ .rxByte b) → t.rxState = s.rxState ∧ t.rxBuf = s.rxBuf ∧ t.rxSlot = s.rxSlot ∧ t.rxHead = s.rxHead) ∧
      (t.rxHead = s.rxHead ∨ t.rxHead = s.rxHead + 1) ∧
      (t.rxTail ≠ s.rxTail → i = .pktRecv ∧ s.rxPending = true ∧ t.rxTail = s.rxTail + 1) ∧
      ((∀ f, i ≠ .pktSend f) → t.txSlot = s.txSlot ∧ t.txHead = s.txHead) ∧
      (t.txHead = s.txHead ∨ t.txHead = s.txHead + 1) ∧
      (t.txTail ≠ s.txTail → i = .txe ∧ s.txState = .pay 7 ∧ t.txTail = s.txTail + 1) ∧
      (t.txState ≠ s.txState → i = .txe) ∧
      (t.txeIe ≠ s.txeIe → (i = .txe ∧ t.txeIe = false) ∨ ((i = .timer ∨ ∃ f, i = .pktSend f) ∧ t.txeIe = true)) ∧
      (t.tcIe ≠ s.tcIe → (i = .txe ∧ t.tcIe = true) ∨ (i = .tc ∧ t.tcIe = false)) ∧
      (t.txEnabled ≠ s.txEnabled → (i = .txe ∧ t.txEnabled = true) ∨ (i = .tc ∧ t.txEnabled = false)) ∧
      (t.timerArmed ≠ s.timerArmed →
        ((i = .txe ∨ i = .tc) ∧ t.timerArmed = true) ∨ (i = .timer ∧ t.timerArmed = false)) ∧
      (t.out.byte ≠ none → i = .txe) ∧
      (t.out.result ≠ none → i = .pktRecv ∨ ∃ f, i = .pktSend f))

/-- 10_state.md R37: the fields that reset leaves at any value can never be observed. Two states that differ only in what the
model calls unobservable take the same step with the same output, and still differ only there. -/
def Obligations.AnyValueFieldsAreUnobservable : Prop :=
  ∀ (i : Instr) (s t s' : State), TxControlInv s → SameButUnobservable s t → exec i s = .next s' →
    ∃ t', exec i t = .next t' ∧ SameButUnobservable s' t'

/-- 43_packet_queue.md R117: no operation but RESET tells a state from the one with each direction's two counters moved on by
the same amount, apart from the counter values themselves. -/
def Obligations.CounterValuesDoNotMatter : Prop :=
  ∀ (i : Instr) (s : State) (rxBy txBy : Counter), i ≠ .reset →
    exec i (shiftCounters rxBy txBy s) = mapNext (shiftCounters rxBy txBy) (exec i s)

/-! ## Before the first RESET -/

/-- 10_state.md R29: `initialised` is 0 before any operation and 1 in every state that a run of the CORE reaches, since such a
run starts with RESET; while it is 0, every operation other than RESET is refused. -/
def Obligations.InitialisedIsZeroUntilReset : Prop :=
  (∀ rest : State, (State.beforeReset rest).initialised = false) ∧
  (∀ (is : List Instr) (rest t : State) (outs : List Out), runFromStart is rest = some (outs, t) → t.initialised = true) ∧
  (∀ (i : Instr) (s : State), s.initialised = false → i ≠ .reset → exec i s = .refused .notInitialised)
end

