-- ==== Sys2Proof/Laws/Bits.lean ====
section
/-! SUPPORT. The bits of the concatenations the model writes, at the widths it writes them, and the fields of an encoded word. -/

namespace Sys2Proof

/-- A bit of a byte put together from two nibbles. -/
theorem getLsbD_nibbles (x y : Nibble) (i : Nat) :
    BitVec.getLsbD (w := 8) (x ++ y) i = if i < 4 then y.getLsbD i else x.getLsbD (i - 4) :=
  (BitVec.getLsbD_append (x := x) (y := y)).trans (by split <;> simp_all)

/-- A bit of byte 0 put together from its two fields. -/
theorem getLsbD_payload_check (x : BitVec 3) (y : Crc5) (i : Nat) :
    BitVec.getLsbD (w := 8) (x ++ y) i = if i < 5 then y.getLsbD i else x.getLsbD (i - 5) :=
  (BitVec.getLsbD_append (x := x) (y := y)).trans (by split <;> simp_all)

/-- A bit of an operation word put together from its operand and its op code. -/
theorem getLsbD_operand_op (x : BitVec 32) (y : BitVec 4) (i : Nat) :
    BitVec.getLsbD (w := 36) (x ++ y) i = if i < 4 then y.getLsbD i else x.getLsbD (i - 4) :=
  (BitVec.getLsbD_append (x := x) (y := y)).trans (by split <;> simp_all)

/-- A bit of RX_BYTE's operand. -/
theorem getLsbD_data_operand (x : BitVec 24) (y : Byte) (i : Nat) :
    BitVec.getLsbD (w := 32) (x ++ y) i = if i < 8 then y.getLsbD i else x.getLsbD (i - 8) :=
  (BitVec.getLsbD_append (x := x) (y := y)).trans (by split <;> simp_all)

/-- A bit of a frame as 32 bits, byte 0 in the low bits. -/
theorem getLsbD_frame_bytes (b3 b2 b1 b0 : Byte) (i : Nat) :
    BitVec.getLsbD (w := 32) (b3 ++ b2 ++ b1 ++ b0) i =
      if i < 8 then b0.getLsbD i else if i < 16 then b1.getLsbD (i - 8)
      else if i < 24 then b2.getLsbD (i - 16) else b3.getLsbD (i - 24) := by
  refine (BitVec.getLsbD_append (x := b3 ++ b2 ++ b1) (y := b0)).trans ?_
  by_cases h0 : i < 8
  · simp [h0]
  rw [BitVec.getLsbD_append, BitVec.getLsbD_append]
  by_cases h1 : i < 16
  · simp [h0, h1, show i - 8 < 8 by omega]
  have e : i - 8 - 8 = i - 16 := by omega
  by_cases h2 : i < 24
  · have : ¬ 8 ≤ i - 16 := by omega
    simp [h0, h1, h2, show ¬ i - 8 < 8 by omega, e, this]
  · have : 8 ≤ i - 16 := by omega
    simp [h0, h1, h2, show ¬ i - 8 < 8 by omega, e, this, show i - 16 - 8 = i - 24 by omega]

/-- The op code of a word put together from an operand and an op code. -/
theorem opField_append (x : BitVec 32) (y : BitVec 4) : opField (x ++ y) = y := by
  apply BitVec.eq_of_getLsbD_eq; intro i hi
  simp [opField, getLsbD_operand_op, hi]

/-- The operand of a word put together from an operand and an op code. -/
theorem operandField_append (x : BitVec 32) (y : BitVec 4) : operandField (x ++ y) = x := by
  apply BitVec.eq_of_getLsbD_eq; intro i hi
  simp [operandField, getLsbD_operand_op, hi]

/-- A word is its operand above its op code. -/
theorem opWord_eq_append (w : OpWord) : w = operandField w ++ opField w := by
  apply BitVec.eq_of_getLsbD_eq; intro i hi
  rw [getLsbD_operand_op]
  by_cases h : i < 4
  · simp [opField, h]
  · simp [operandField, h, show i - 4 < 32 by omega, show 4 + (i - 4) = i by omega]

end Sys2Proof
end

