-- ==== Sys2Proof/Laws/Config.lean ====
section
/-! SUPPORT. What a legal configuration gives (00_scope.md R6, 30_encoding.md R58), clause by clause. -/

namespace Sys2Proof.Config

theorem params_legal : params.legal = true := (chosen ⟨someLegal⟩).property

/-- The five clauses of `legal` as propositions. -/
theorem Params.legal_iff (c : Params) : c.legal = true ↔
    (∀ m n : Nibble, c.codebook m = c.codebook n → m = n) ∧ (∀ n : Nibble, c.codebook n ≠ c.syncCode) ∧
    (∀ n : Nibble, c.syncRxSet (c.codebook n) = false) ∧ c.syncRxSet c.syncCode = true ∧
    (0 < c.baud ∧ 0 < c.idleGap ∧ 0 < c.maxRun) := by
  simp only [legal, codebookInjective, syncCodeNotData, syncSetDisjoint, syncCodeReceived, quantitiesPositive,
    Bool.and_eq_true, decide_eq_true_eq, and_assoc]

theorem Params.codebook_injective {c : Params} (h : c.legal = true) {m n : Nibble} (e : c.codebook m = c.codebook n) : m = n :=
  (c.legal_iff.1 h).1 m n e

theorem Params.codebook_not_sync {c : Params} (h : c.legal = true) (n : Nibble) : c.syncRxSet (c.codebook n) = false :=
  (c.legal_iff.1 h).2.2.1 n

theorem Params.syncCode_received {c : Params} (h : c.legal = true) : c.syncRxSet c.syncCode = true :=
  (c.legal_iff.1 h).2.2.2.1

end Sys2Proof.Config
end

