-- ==== Sys2Proof/Laws/Codec.lean ====
section
/-! SUPPORT. The codec's look-ups: what a hit of the inverse table and each class of a byte mean. -/

namespace Sys2Proof

open Config (Params)

theorem mem_allNibbles (n : Nibble) : n ∈ allNibbles := by
  revert n; decide

/-- A hit of the inverse table names a nibble whose symbol the byte is. -/
theorem codebook_of_decodeTable {c : Params} {b : Byte} {n : Nibble} (h : decodeTable c b = some n) : c.codebook n = b := by
  simpa using List.find?_some h

/-- A miss of the inverse table: the byte is no symbol. -/
theorem decodeTable_eq_none {c : Params} {b : Byte} : decodeTable c b = none ↔ ∀ n, c.codebook n ≠ b := by
  simp [decodeTable, mem_allNibbles]

/-- A byte is classed as a sync marker exactly when the receiver's set holds it. -/
theorem decodeSymbol_eq_sync {c : Params} {b : Byte} : decodeSymbol c b = .sync ↔ c.syncRxSet b = true := by
  unfold decodeSymbol
  split
  · simp_all
  · split <;> simp_all

end Sys2Proof
end

