-- ==== Sys2Proof/Laws/Operands.lean ====
section
/-! SUPPORT. Nibbles and bytes of a frame: what a nibble write does, and that a frame is its nibbles. -/

namespace Sys2Proof

@[simp] theorem lowNibble_setLowNibble (b : Byte) (n : Nibble) : lowNibble (setLowNibble b n) = n := by
  apply BitVec.eq_of_getLsbD_eq; intro i hi
  simp [lowNibble, setLowNibble, getLsbD_nibbles, hi]

@[simp] theorem highNibble_setLowNibble (b : Byte) (n : Nibble) : highNibble (setLowNibble b n) = highNibble b := by
  apply BitVec.eq_of_getLsbD_eq; intro i hi
  simp [highNibble, setLowNibble, getLsbD_nibbles, hi]

@[simp] theorem highNibble_setHighNibble (b : Byte) (n : Nibble) : highNibble (setHighNibble b n) = n := by
  apply BitVec.eq_of_getLsbD_eq; intro i hi
  simp [highNibble, setHighNibble, getLsbD_nibbles, hi]

@[simp] theorem lowNibble_setHighNibble (b : Byte) (n : Nibble) : lowNibble (setHighNibble b n) = lowNibble b := by
  apply BitVec.eq_of_getLsbD_eq; intro i hi
  simp [lowNibble, setHighNibble, getLsbD_nibbles, hi]

/-- A byte is its two nibbles. -/
theorem byte_eq_of_nibbles {a b : Byte} (lo : lowNibble a = lowNibble b) (hi : highNibble a = highNibble b) : a = b := by
  have key : ∀ v : Byte, v = highNibble v ++ lowNibble v := by
    intro v
    apply BitVec.eq_of_getLsbD_eq; intro i hi
    rw [getLsbD_nibbles]
    by_cases h : i < 4
    · simp [lowNibble, h]
    · simp [highNibble, h, show i - 4 < 4 by omega, show 4 + (i - 4) = i by omega]
  rw [key a, key b, lo, hi]

/-- Nibble `j` after nibble `k` was written. -/
theorem Frame.nibble_setNibble (f : Frame) (k j : Fin 8) (n : Nibble) :
    (f.setNibble k n).nibble j = if j = k then n else f.nibble j := by
  fin_cases k <;> fin_cases j <;>
    simp [Frame.nibble, Frame.setNibble, isHighNibble, byteOfNibble, Frame.byte, Frame.setByte, Nat.testBit]

/-- A frame is its eight nibbles. -/
theorem Frame.eq_of_nibbles {f g : Frame} (h : ∀ k, f.nibble k = g.nibble k) : f = g := by
  have h0 := h 0; have h1 := h 1; have h2 := h 2; have h3 := h 3
  have h4 := h 4; have h5 := h 5; have h6 := h 6; have h7 := h 7
  simp [Frame.nibble, isHighNibble, byteOfNibble, Frame.byte, Nat.testBit] at h0 h1 h2 h3 h4 h5 h6 h7
  cases f; cases g
  simp only [Frame.mk.injEq]
  exact ⟨byte_eq_of_nibbles h0 h1, byte_eq_of_nibbles h2 h3, byte_eq_of_nibbles h4 h5, byte_eq_of_nibbles h6 h7⟩

end Sys2Proof
end

