-- ==== Sys2Proof/Laws/State.lean ====
section
/-! SUPPORT. One lemma for each field under each named update of the state, so that no proof unfolds an update. -/

namespace Sys2Proof.Machine

/-! ### silent -/

@[simp] theorem State.silent_rxState (s : State) : s.silent.rxState = s.rxState := rfl
@[simp] theorem State.silent_rxBuf (s : State) : s.silent.rxBuf = s.rxBuf := rfl
@[simp] theorem State.silent_rxSlot (s : State) : s.silent.rxSlot = s.rxSlot := rfl
@[simp] theorem State.silent_rxHead (s : State) : s.silent.rxHead = s.rxHead := rfl
@[simp] theorem State.silent_rxTail (s : State) : s.silent.rxTail = s.rxTail := rfl
@[simp] theorem State.silent_txState (s : State) : s.silent.txState = s.txState := rfl
@[simp] theorem State.silent_txSlot (s : State) : s.silent.txSlot = s.txSlot := rfl
@[simp] theorem State.silent_txHead (s : State) : s.silent.txHead = s.txHead := rfl
@[simp] theorem State.silent_txTail (s : State) : s.silent.txTail = s.txTail := rfl
@[simp] theorem State.silent_txeIe (s : State) : s.silent.txeIe = s.txeIe := rfl
@[simp] theorem State.silent_tcIe (s : State) : s.silent.tcIe = s.tcIe := rfl
@[simp] theorem State.silent_txEnabled (s : State) : s.silent.txEnabled = s.txEnabled := rfl
@[simp] theorem State.silent_timerArmed (s : State) : s.silent.timerArmed = s.timerArmed := rfl
@[simp] theorem State.silent_initialised (s : State) : s.silent.initialised = s.initialised := rfl
@[simp] theorem State.silent_out (s : State) : s.silent.out = { byte := none, result := none } := rfl
@[simp] theorem State.silent_ops (s : State) : s.silent.ops = s.ops := rfl
@[simp] theorem State.silent_draws (s : State) : s.silent.draws = s.draws := rfl

/-! ### emit -/

@[simp] theorem State.emit_rxState (s : State) (b : Byte) : (s.emit b).rxState = s.rxState := rfl
@[simp] theorem State.emit_rxBuf (s : State) (b : Byte) : (s.emit b).rxBuf = s.rxBuf := rfl
@[simp] theorem State.emit_rxSlot (s : State) (b : Byte) : (s.emit b).rxSlot = s.rxSlot := rfl
@[simp] theorem State.emit_rxHead (s : State) (b : Byte) : (s.emit b).rxHead = s.rxHead := rfl
@[simp] theorem State.emit_rxTail (s : State) (b : Byte) : (s.emit b).rxTail = s.rxTail := rfl
@[simp] theorem State.emit_txState (s : State) (b : Byte) : (s.emit b).txState = s.txState := rfl
@[simp] theorem State.emit_txSlot (s : State) (b : Byte) : (s.emit b).txSlot = s.txSlot := rfl
@[simp] theorem State.emit_txHead (s : State) (b : Byte) : (s.emit b).txHead = s.txHead := rfl
@[simp] theorem State.emit_txTail (s : State) (b : Byte) : (s.emit b).txTail = s.txTail := rfl
@[simp] theorem State.emit_txeIe (s : State) (b : Byte) : (s.emit b).txeIe = s.txeIe := rfl
@[simp] theorem State.emit_tcIe (s : State) (b : Byte) : (s.emit b).tcIe = s.tcIe := rfl
@[simp] theorem State.emit_txEnabled (s : State) (b : Byte) : (s.emit b).txEnabled = s.txEnabled := rfl
@[simp] theorem State.emit_timerArmed (s : State) (b : Byte) : (s.emit b).timerArmed = s.timerArmed := rfl
@[simp] theorem State.emit_initialised (s : State) (b : Byte) : (s.emit b).initialised = s.initialised := rfl
@[simp] theorem State.emit_out (s : State) (b : Byte) : (s.emit b).out = { byte := some b, result := none } := rfl
@[simp] theorem State.emit_ops (s : State) (b : Byte) : (s.emit b).ops = s.ops := rfl
@[simp] theorem State.emit_draws (s : State) (b : Byte) : (s.emit b).draws = s.draws := rfl

/-! ### answer -/

@[simp] theorem State.answer_rxState (s : State) (r : OpResult) : (s.answer r).rxState = s.rxState := rfl
@[simp] theorem State.answer_rxBuf (s : State) (r : OpResult) : (s.answer r).rxBuf = s.rxBuf := rfl
@[simp] theorem State.answer_rxSlot (s : State) (r : OpResult) : (s.answer r).rxSlot = s.rxSlot := rfl
@[simp] theorem State.answer_rxHead (s : State) (r : OpResult) : (s.answer r).rxHead = s.rxHead := rfl
@[simp] theorem State.answer_rxTail (s : State) (r : OpResult) : (s.answer r).rxTail = s.rxTail := rfl
@[simp] theorem State.answer_txState (s : State) (r : OpResult) : (s.answer r).txState = s.txState := rfl
@[simp] theorem State.answer_txSlot (s : State) (r : OpResult) : (s.answer r).txSlot = s.txSlot := rfl
@[simp] theorem State.answer_txHead (s : State) (r : OpResult) : (s.answer r).txHead = s.txHead := rfl
@[simp] theorem State.answer_txTail (s : State) (r : OpResult) : (s.answer r).txTail = s.txTail := rfl
@[simp] theorem State.answer_txeIe (s : State) (r : OpResult) : (s.answer r).txeIe = s.txeIe := rfl
@[simp] theorem State.answer_tcIe (s : State) (r : OpResult) : (s.answer r).tcIe = s.tcIe := rfl
@[simp] theorem State.answer_txEnabled (s : State) (r : OpResult) : (s.answer r).txEnabled = s.txEnabled := rfl
@[simp] theorem State.answer_timerArmed (s : State) (r : OpResult) : (s.answer r).timerArmed = s.timerArmed := rfl
@[simp] theorem State.answer_initialised (s : State) (r : OpResult) : (s.answer r).initialised = s.initialised := rfl
@[simp] theorem State.answer_out (s : State) (r : OpResult) : (s.answer r).out = { byte := none, result := some r } := rfl
@[simp] theorem State.answer_ops (s : State) (r : OpResult) : (s.answer r).ops = s.ops := rfl
@[simp] theorem State.answer_draws (s : State) (r : OpResult) : (s.answer r).draws = s.draws := rfl

/-! ### startIdleGap -/

@[simp] theorem State.startIdleGap_rxState (s : State) : s.startIdleGap.rxState = s.rxState := rfl
@[simp] theorem State.startIdleGap_rxBuf (s : State) : s.startIdleGap.rxBuf = s.rxBuf := rfl
@[simp] theorem State.startIdleGap_rxSlot (s : State) : s.startIdleGap.rxSlot = s.rxSlot := rfl
@[simp] theorem State.startIdleGap_rxHead (s : State) : s.startIdleGap.rxHead = s.rxHead := rfl
@[simp] theorem State.startIdleGap_rxTail (s : State) : s.startIdleGap.rxTail = s.rxTail := rfl
@[simp] theorem State.startIdleGap_txState (s : State) : s.startIdleGap.txState = s.txState := rfl
@[simp] theorem State.startIdleGap_txSlot (s : State) : s.startIdleGap.txSlot = s.txSlot := rfl
@[simp] theorem State.startIdleGap_txHead (s : State) : s.startIdleGap.txHead = s.txHead := rfl
@[simp] theorem State.startIdleGap_txTail (s : State) : s.startIdleGap.txTail = s.txTail := rfl
@[simp] theorem State.startIdleGap_txeIe (s : State) : s.startIdleGap.txeIe = false := rfl
@[simp] theorem State.startIdleGap_tcIe (s : State) : s.startIdleGap.tcIe = s.tcIe := rfl
@[simp] theorem State.startIdleGap_txEnabled (s : State) : s.startIdleGap.txEnabled = true := rfl
@[simp] theorem State.startIdleGap_timerArmed (s : State) : s.startIdleGap.timerArmed = true := rfl
@[simp] theorem State.startIdleGap_initialised (s : State) : s.startIdleGap.initialised = s.initialised := rfl
@[simp] theorem State.startIdleGap_out (s : State) : s.startIdleGap.out = s.out := rfl
@[simp] theorem State.startIdleGap_ops (s : State) : s.startIdleGap.ops = s.ops := rfl
@[simp] theorem State.startIdleGap_draws (s : State) : s.startIdleGap.draws = s.draws := rfl

/-! ### armCompletion -/

@[simp] theorem State.armCompletion_rxState (s : State) : s.armCompletion.rxState = s.rxState := rfl
@[simp] theorem State.armCompletion_rxBuf (s : State) : s.armCompletion.rxBuf = s.rxBuf := rfl
@[simp] theorem State.armCompletion_rxSlot (s : State) : s.armCompletion.rxSlot = s.rxSlot := rfl
@[simp] theorem State.armCompletion_rxHead (s : State) : s.armCompletion.rxHead = s.rxHead := rfl
@[simp] theorem State.armCompletion_rxTail (s : State) : s.armCompletion.rxTail = s.rxTail := rfl
@[simp] theorem State.armCompletion_txState (s : State) : s.armCompletion.txState = s.txState := rfl
@[simp] theorem State.armCompletion_txSlot (s : State) : s.armCompletion.txSlot = s.txSlot := rfl
@[simp] theorem State.armCompletion_txHead (s : State) : s.armCompletion.txHead = s.txHead := rfl
@[simp] theorem State.armCompletion_txTail (s : State) : s.armCompletion.txTail = s.txTail := rfl
@[simp] theorem State.armCompletion_txeIe (s : State) : s.armCompletion.txeIe = false := rfl
@[simp] theorem State.armCompletion_tcIe (s : State) : s.armCompletion.tcIe = true := rfl
@[simp] theorem State.armCompletion_txEnabled (s : State) : s.armCompletion.txEnabled = s.txEnabled := rfl
@[simp] theorem State.armCompletion_timerArmed (s : State) : s.armCompletion.timerArmed = s.timerArmed := rfl
@[simp] theorem State.armCompletion_initialised (s : State) : s.armCompletion.initialised = s.initialised := rfl
@[simp] theorem State.armCompletion_out (s : State) : s.armCompletion.out = s.out := rfl
@[simp] theorem State.armCompletion_ops (s : State) : s.armCompletion.ops = s.ops := rfl
@[simp] theorem State.armCompletion_draws (s : State) : s.armCompletion.draws = s.draws := rfl

/-! ### timerElapsed -/

@[simp] theorem State.timerElapsed_rxState (s : State) : s.timerElapsed.rxState = s.rxState := rfl
@[simp] theorem State.timerElapsed_rxBuf (s : State) : s.timerElapsed.rxBuf = s.rxBuf := rfl
@[simp] theorem State.timerElapsed_rxSlot (s : State) : s.timerElapsed.rxSlot = s.rxSlot := rfl
@[simp] theorem State.timerElapsed_rxHead (s : State) : s.timerElapsed.rxHead = s.rxHead := rfl
@[simp] theorem State.timerElapsed_rxTail (s : State) : s.timerElapsed.rxTail = s.rxTail := rfl
@[simp] theorem State.timerElapsed_txState (s : State) : s.timerElapsed.txState = s.txState := rfl
@[simp] theorem State.timerElapsed_txSlot (s : State) : s.timerElapsed.txSlot = s.txSlot := rfl
@[simp] theorem State.timerElapsed_txHead (s : State) : s.timerElapsed.txHead = s.txHead := rfl
@[simp] theorem State.timerElapsed_txTail (s : State) : s.timerElapsed.txTail = s.txTail := rfl
@[simp] theorem State.timerElapsed_txeIe (s : State) : s.timerElapsed.txeIe = true := rfl
@[simp] theorem State.timerElapsed_tcIe (s : State) : s.timerElapsed.tcIe = s.tcIe := rfl
@[simp] theorem State.timerElapsed_txEnabled (s : State) : s.timerElapsed.txEnabled = s.txEnabled := rfl
@[simp] theorem State.timerElapsed_timerArmed (s : State) : s.timerElapsed.timerArmed = false := rfl
@[simp] theorem State.timerElapsed_initialised (s : State) : s.timerElapsed.initialised = s.initialised := rfl
@[simp] theorem State.timerElapsed_out (s : State) : s.timerElapsed.out = s.out := rfl
@[simp] theorem State.timerElapsed_ops (s : State) : s.timerElapsed.ops = s.ops := rfl
@[simp] theorem State.timerElapsed_draws (s : State) : s.timerElapsed.draws = s.draws := rfl

/-! ### completeTransmission -/

@[simp] theorem State.completeTransmission_rxState (s : State) : s.completeTransmission.rxState = s.rxState := by
  unfold State.completeTransmission; split <;> rfl
@[simp] theorem State.completeTransmission_rxBuf (s : State) : s.completeTransmission.rxBuf = s.rxBuf := by
  unfold State.completeTransmission; split <;> rfl
@[simp] theorem State.completeTransmission_rxSlot (s : State) : s.completeTransmission.rxSlot = s.rxSlot := by
  unfold State.completeTransmission; split <;> rfl
@[simp] theorem State.completeTransmission_rxHead (s : State) : s.completeTransmission.rxHead = s.rxHead := by
  unfold State.completeTransmission; split <;> rfl
@[simp] theorem State.completeTransmission_rxTail (s : State) : s.completeTransmission.rxTail = s.rxTail := by
  unfold State.completeTransmission; split <;> rfl
@[simp] theorem State.completeTransmission_txState (s : State) : s.completeTransmission.txState = s.txState := by
  unfold State.completeTransmission; split <;> rfl
@[simp] theorem State.completeTransmission_txSlot (s : State) : s.completeTransmission.txSlot = s.txSlot := by
  unfold State.completeTransmission; split <;> rfl
@[simp] theorem State.completeTransmission_txHead (s : State) : s.completeTransmission.txHead = s.txHead := by
  unfold State.completeTransmission; split <;> rfl
@[simp] theorem State.completeTransmission_txTail (s : State) : s.completeTransmission.txTail = s.txTail := by
  unfold State.completeTransmission; split <;> rfl
@[simp] theorem State.completeTransmission_txeIe (s : State) : s.completeTransmission.txeIe = s.txeIe := by
  unfold State.completeTransmission; split <;> rfl
@[simp] theorem State.completeTransmission_tcIe (s : State) : s.completeTransmission.tcIe = false := by
  unfold State.completeTransmission; cases h : s.txPending <;> simp
@[simp] theorem State.completeTransmission_txEnabled (s : State) : s.completeTransmission.txEnabled = (s.txPending && s.txEnabled) := by
  unfold State.completeTransmission; cases h : s.txPending <;> simp
@[simp] theorem State.completeTransmission_timerArmed (s : State) : s.completeTransmission.timerArmed = (s.txPending || s.timerArmed) := by
  unfold State.completeTransmission; cases h : s.txPending <;> simp
@[simp] theorem State.completeTransmission_initialised (s : State) : s.completeTransmission.initialised = s.initialised := by
  unfold State.completeTransmission; split <;> rfl
@[simp] theorem State.completeTransmission_out (s : State) : s.completeTransmission.out = s.out := by
  unfold State.completeTransmission; split <;> rfl
@[simp] theorem State.completeTransmission_ops (s : State) : s.completeTransmission.ops = s.ops := by
  unfold State.completeTransmission; split <;> rfl
@[simp] theorem State.completeTransmission_draws (s : State) : s.completeTransmission.draws = s.draws := by
  unfold State.completeTransmission; split <;> rfl

/-! ### kickIfIdle -/

@[simp] theorem State.kickIfIdle_rxState (s : State) : s.kickIfIdle.rxState = s.rxState := by
  unfold State.kickIfIdle; split <;> rfl
@[simp] theorem State.kickIfIdle_rxBuf (s : State) : s.kickIfIdle.rxBuf = s.rxBuf := by
  unfold State.kickIfIdle; split <;> rfl
@[simp] theorem State.kickIfIdle_rxSlot (s : State) : s.kickIfIdle.rxSlot = s.rxSlot := by
  unfold State.kickIfIdle; split <;> rfl
@[simp] theorem State.kickIfIdle_rxHead (s : State) : s.kickIfIdle.rxHead = s.rxHead := by
  unfold State.kickIfIdle; split <;> rfl
@[simp] theorem State.kickIfIdle_rxTail (s : State) : s.kickIfIdle.rxTail = s.rxTail := by
  unfold State.kickIfIdle; split <;> rfl
@[simp] theorem State.kickIfIdle_txState (s : State) : s.kickIfIdle.txState = s.txState := by
  unfold State.kickIfIdle; split <;> rfl
@[simp] theorem State.kickIfIdle_txSlot (s : State) : s.kickIfIdle.txSlot = s.txSlot := by
  unfold State.kickIfIdle; split <;> rfl
@[simp] theorem State.kickIfIdle_txHead (s : State) : s.kickIfIdle.txHead = s.txHead := by
  unfold State.kickIfIdle; split <;> rfl
@[simp] theorem State.kickIfIdle_txTail (s : State) : s.kickIfIdle.txTail = s.txTail := by
  unfold State.kickIfIdle; split <;> rfl
@[simp] theorem State.kickIfIdle_txeIe (s : State) : s.kickIfIdle.txeIe = (!s.txEnabled || s.txeIe) := by
  unfold State.kickIfIdle; cases h : s.txEnabled <;> simp
@[simp] theorem State.kickIfIdle_tcIe (s : State) : s.kickIfIdle.tcIe = s.tcIe := by
  unfold State.kickIfIdle; split <;> rfl
@[simp] theorem State.kickIfIdle_txEnabled (s : State) : s.kickIfIdle.txEnabled = s.txEnabled := by
  unfold State.kickIfIdle; split <;> rfl
@[simp] theorem State.kickIfIdle_timerArmed (s : State) : s.kickIfIdle.timerArmed = s.timerArmed := by
  unfold State.kickIfIdle; split <;> rfl
@[simp] theorem State.kickIfIdle_initialised (s : State) : s.kickIfIdle.initialised = s.initialised := by
  unfold State.kickIfIdle; split <;> rfl
@[simp] theorem State.kickIfIdle_out (s : State) : s.kickIfIdle.out = s.out := by
  unfold State.kickIfIdle; split <;> rfl
@[simp] theorem State.kickIfIdle_ops (s : State) : s.kickIfIdle.ops = s.ops := by
  unfold State.kickIfIdle; split <;> rfl
@[simp] theorem State.kickIfIdle_draws (s : State) : s.kickIfIdle.draws = s.draws := by
  unfold State.kickIfIdle; split <;> rfl

/-! ### writeTxSlot -/

@[simp] theorem State.writeTxSlot_rxState (s : State) (f : Frame) : (s.writeTxSlot f).rxState = s.rxState := rfl
@[simp] theorem State.writeTxSlot_rxBuf (s : State) (f : Frame) : (s.writeTxSlot f).rxBuf = s.rxBuf := rfl
@[simp] theorem State.writeTxSlot_rxSlot (s : State) (f : Frame) : (s.writeTxSlot f).rxSlot = s.rxSlot := rfl
@[simp] theorem State.writeTxSlot_rxHead (s : State) (f : Frame) : (s.writeTxSlot f).rxHead = s.rxHead := rfl
@[simp] theorem State.writeTxSlot_rxTail (s : State) (f : Frame) : (s.writeTxSlot f).rxTail = s.rxTail := rfl
@[simp] theorem State.writeTxSlot_txState (s : State) (f : Frame) : (s.writeTxSlot f).txState = s.txState := rfl
@[simp] theorem State.writeTxSlot_txSlot (s : State) (f : Frame) : (s.writeTxSlot f).txSlot = f := rfl
@[simp] theorem State.writeTxSlot_txHead (s : State) (f : Frame) : (s.writeTxSlot f).txHead = s.txHead := rfl
@[simp] theorem State.writeTxSlot_txTail (s : State) (f : Frame) : (s.writeTxSlot f).txTail = s.txTail := rfl
@[simp] theorem State.writeTxSlot_txeIe (s : State) (f : Frame) : (s.writeTxSlot f).txeIe = s.txeIe := rfl
@[simp] theorem State.writeTxSlot_tcIe (s : State) (f : Frame) : (s.writeTxSlot f).tcIe = s.tcIe := rfl
@[simp] theorem State.writeTxSlot_txEnabled (s : State) (f : Frame) : (s.writeTxSlot f).txEnabled = s.txEnabled := rfl
@[simp] theorem State.writeTxSlot_timerArmed (s : State) (f : Frame) : (s.writeTxSlot f).timerArmed = s.timerArmed := rfl
@[simp] theorem State.writeTxSlot_initialised (s : State) (f : Frame) : (s.writeTxSlot f).initialised = s.initialised := rfl
@[simp] theorem State.writeTxSlot_out (s : State) (f : Frame) : (s.writeTxSlot f).out = s.out := rfl
@[simp] theorem State.writeTxSlot_ops (s : State) (f : Frame) : (s.writeTxSlot f).ops = s.ops := rfl
@[simp] theorem State.writeTxSlot_draws (s : State) (f : Frame) : (s.writeTxSlot f).draws = s.draws := rfl

/-! ### advanceTxHead -/

@[simp] theorem State.advanceTxHead_rxState (s : State) : s.advanceTxHead.rxState = s.rxState := rfl
@[simp] theorem State.advanceTxHead_rxBuf (s : State) : s.advanceTxHead.rxBuf = s.rxBuf := rfl
@[simp] theorem State.advanceTxHead_rxSlot (s : State) : s.advanceTxHead.rxSlot = s.rxSlot := rfl
@[simp] theorem State.advanceTxHead_rxHead (s : State) : s.advanceTxHead.rxHead = s.rxHead := rfl
@[simp] theorem State.advanceTxHead_rxTail (s : State) : s.advanceTxHead.rxTail = s.rxTail := rfl
@[simp] theorem State.advanceTxHead_txState (s : State) : s.advanceTxHead.txState = s.txState := rfl
@[simp] theorem State.advanceTxHead_txSlot (s : State) : s.advanceTxHead.txSlot = s.txSlot := rfl
@[simp] theorem State.advanceTxHead_txHead (s : State) : s.advanceTxHead.txHead = bump s.txHead := rfl
@[simp] theorem State.advanceTxHead_txTail (s : State) : s.advanceTxHead.txTail = s.txTail := rfl
@[simp] theorem State.advanceTxHead_txeIe (s : State) : s.advanceTxHead.txeIe = s.txeIe := rfl
@[simp] theorem State.advanceTxHead_tcIe (s : State) : s.advanceTxHead.tcIe = s.tcIe := rfl
@[simp] theorem State.advanceTxHead_txEnabled (s : State) : s.advanceTxHead.txEnabled = s.txEnabled := rfl
@[simp] theorem State.advanceTxHead_timerArmed (s : State) : s.advanceTxHead.timerArmed = s.timerArmed := rfl
@[simp] theorem State.advanceTxHead_initialised (s : State) : s.advanceTxHead.initialised = s.initialised := rfl
@[simp] theorem State.advanceTxHead_out (s : State) : s.advanceTxHead.out = s.out := rfl
@[simp] theorem State.advanceTxHead_ops (s : State) : s.advanceTxHead.ops = s.ops := rfl
@[simp] theorem State.advanceTxHead_draws (s : State) : s.advanceTxHead.draws = s.draws := rfl

/-! ### advanceTxTail -/

@[simp] theorem State.advanceTxTail_rxState (s : State) : s.advanceTxTail.rxState = s.rxState := rfl
@[simp] theorem State.advanceTxTail_rxBuf (s : State) : s.advanceTxTail.rxBuf = s.rxBuf := rfl
@[simp] theorem State.advanceTxTail_rxSlot (s : State) : s.advanceTxTail.rxSlot = s.rxSlot := rfl
@[simp] theorem State.advanceTxTail_rxHead (s : State) : s.advanceTxTail.rxHead = s.rxHead := rfl
@[simp] theorem State.advanceTxTail_rxTail (s : State) : s.advanceTxTail.rxTail = s.rxTail := rfl
@[simp] theorem State.advanceTxTail_txState (s : State) : s.advanceTxTail.txState = s.txState := rfl
@[simp] theorem State.advanceTxTail_txSlot (s : State) : s.advanceTxTail.txSlot = s.txSlot := rfl
@[simp] theorem State.advanceTxTail_txHead (s : State) : s.advanceTxTail.txHead = s.txHead := rfl
@[simp] theorem State.advanceTxTail_txTail (s : State) : s.advanceTxTail.txTail = bump s.txTail := rfl
@[simp] theorem State.advanceTxTail_txeIe (s : State) : s.advanceTxTail.txeIe = s.txeIe := rfl
@[simp] theorem State.advanceTxTail_tcIe (s : State) : s.advanceTxTail.tcIe = s.tcIe := rfl
@[simp] theorem State.advanceTxTail_txEnabled (s : State) : s.advanceTxTail.txEnabled = s.txEnabled := rfl
@[simp] theorem State.advanceTxTail_timerArmed (s : State) : s.advanceTxTail.timerArmed = s.timerArmed := rfl
@[simp] theorem State.advanceTxTail_initialised (s : State) : s.advanceTxTail.initialised = s.initialised := rfl
@[simp] theorem State.advanceTxTail_out (s : State) : s.advanceTxTail.out = s.out := rfl
@[simp] theorem State.advanceTxTail_ops (s : State) : s.advanceTxTail.ops = s.ops := rfl
@[simp] theorem State.advanceTxTail_draws (s : State) : s.advanceTxTail.draws = s.draws := rfl

/-! ### advanceRxTail -/

@[simp] theorem State.advanceRxTail_rxState (s : State) : s.advanceRxTail.rxState = s.rxState := rfl
@[simp] theorem State.advanceRxTail_rxBuf (s : State) : s.advanceRxTail.rxBuf = s.rxBuf := rfl
@[simp] theorem State.advanceRxTail_rxSlot (s : State) : s.advanceRxTail.rxSlot = s.rxSlot := rfl
@[simp] theorem State.advanceRxTail_rxHead (s : State) : s.advanceRxTail.rxHead = s.rxHead := rfl
@[simp] theorem State.advanceRxTail_rxTail (s : State) : s.advanceRxTail.rxTail = bump s.rxTail := rfl
@[simp] theorem State.advanceRxTail_txState (s : State) : s.advanceRxTail.txState = s.txState := rfl
@[simp] theorem State.advanceRxTail_txSlot (s : State) : s.advanceRxTail.txSlot = s.txSlot := rfl
@[simp] theorem State.advanceRxTail_txHead (s : State) : s.advanceRxTail.txHead = s.txHead := rfl
@[simp] theorem State.advanceRxTail_txTail (s : State) : s.advanceRxTail.txTail = s.txTail := rfl
@[simp] theorem State.advanceRxTail_txeIe (s : State) : s.advanceRxTail.txeIe = s.txeIe := rfl
@[simp] theorem State.advanceRxTail_tcIe (s : State) : s.advanceRxTail.tcIe = s.tcIe := rfl
@[simp] theorem State.advanceRxTail_txEnabled (s : State) : s.advanceRxTail.txEnabled = s.txEnabled := rfl
@[simp] theorem State.advanceRxTail_timerArmed (s : State) : s.advanceRxTail.timerArmed = s.timerArmed := rfl
@[simp] theorem State.advanceRxTail_initialised (s : State) : s.advanceRxTail.initialised = s.initialised := rfl
@[simp] theorem State.advanceRxTail_out (s : State) : s.advanceRxTail.out = s.out := rfl
@[simp] theorem State.advanceRxTail_ops (s : State) : s.advanceRxTail.ops = s.ops := rfl
@[simp] theorem State.advanceRxTail_draws (s : State) : s.advanceRxTail.draws = s.draws := rfl

/-! ### withRxFields -/

@[simp] theorem State.withRxFields_rxState (s : State) (r : RxFields) : (s.withRxFields r).rxState = r.state := rfl
@[simp] theorem State.withRxFields_rxBuf (s : State) (r : RxFields) : (s.withRxFields r).rxBuf = r.buf := rfl
@[simp] theorem State.withRxFields_rxSlot (s : State) (r : RxFields) : (s.withRxFields r).rxSlot = r.slot := rfl
@[simp] theorem State.withRxFields_rxHead (s : State) (r : RxFields) : (s.withRxFields r).rxHead = r.head := rfl
@[simp] theorem State.withRxFields_rxTail (s : State) (r : RxFields) : (s.withRxFields r).rxTail = s.rxTail := rfl
@[simp] theorem State.withRxFields_txState (s : State) (r : RxFields) : (s.withRxFields r).txState = s.txState := rfl
@[simp] theorem State.withRxFields_txSlot (s : State) (r : RxFields) : (s.withRxFields r).txSlot = s.txSlot := rfl
@[simp] theorem State.withRxFields_txHead (s : State) (r : RxFields) : (s.withRxFields r).txHead = s.txHead := rfl
@[simp] theorem State.withRxFields_txTail (s : State) (r : RxFields) : (s.withRxFields r).txTail = s.txTail := rfl
@[simp] theorem State.withRxFields_txeIe (s : State) (r : RxFields) : (s.withRxFields r).txeIe = s.txeIe := rfl
@[simp] theorem State.withRxFields_tcIe (s : State) (r : RxFields) : (s.withRxFields r).tcIe = s.tcIe := rfl
@[simp] theorem State.withRxFields_txEnabled (s : State) (r : RxFields) : (s.withRxFields r).txEnabled = s.txEnabled := rfl
@[simp] theorem State.withRxFields_timerArmed (s : State) (r : RxFields) : (s.withRxFields r).timerArmed = s.timerArmed := rfl
@[simp] theorem State.withRxFields_initialised (s : State) (r : RxFields) : (s.withRxFields r).initialised = s.initialised := rfl
@[simp] theorem State.withRxFields_out (s : State) (r : RxFields) : (s.withRxFields r).out = s.out := rfl
@[simp] theorem State.withRxFields_ops (s : State) (r : RxFields) : (s.withRxFields r).ops = s.ops := rfl
@[simp] theorem State.withRxFields_draws (s : State) (r : RxFields) : (s.withRxFields r).draws = s.draws := rfl

/-! ### present -/

@[simp] theorem State.present_rxState (s : State) (w : OpWord) : (s.present w).rxState = s.rxState := rfl
@[simp] theorem State.present_rxBuf (s : State) (w : OpWord) : (s.present w).rxBuf = s.rxBuf := rfl
@[simp] theorem State.present_rxSlot (s : State) (w : OpWord) : (s.present w).rxSlot = s.rxSlot := rfl
@[simp] theorem State.present_rxHead (s : State) (w : OpWord) : (s.present w).rxHead = s.rxHead := rfl
@[simp] theorem State.present_rxTail (s : State) (w : OpWord) : (s.present w).rxTail = s.rxTail := rfl
@[simp] theorem State.present_txState (s : State) (w : OpWord) : (s.present w).txState = s.txState := rfl
@[simp] theorem State.present_txSlot (s : State) (w : OpWord) : (s.present w).txSlot = s.txSlot := rfl
@[simp] theorem State.present_txHead (s : State) (w : OpWord) : (s.present w).txHead = s.txHead := rfl
@[simp] theorem State.present_txTail (s : State) (w : OpWord) : (s.present w).txTail = s.txTail := rfl
@[simp] theorem State.present_txeIe (s : State) (w : OpWord) : (s.present w).txeIe = s.txeIe := rfl
@[simp] theorem State.present_tcIe (s : State) (w : OpWord) : (s.present w).tcIe = s.tcIe := rfl
@[simp] theorem State.present_txEnabled (s : State) (w : OpWord) : (s.present w).txEnabled = s.txEnabled := rfl
@[simp] theorem State.present_timerArmed (s : State) (w : OpWord) : (s.present w).timerArmed = s.timerArmed := rfl
@[simp] theorem State.present_initialised (s : State) (w : OpWord) : (s.present w).initialised = s.initialised := rfl
@[simp] theorem State.present_out (s : State) (w : OpWord) : (s.present w).out = s.out := rfl
@[simp] theorem State.present_ops (s : State) (w : OpWord) : (s.present w).ops = w :: s.ops := rfl
@[simp] theorem State.present_draws (s : State) (w : OpWord) : (s.present w).draws = s.draws := rfl

/-! ### beforeReset -/

@[simp] theorem State.beforeReset_rxState (s : State) : (State.beforeReset s).rxState = s.rxState := rfl
@[simp] theorem State.beforeReset_rxBuf (s : State) : (State.beforeReset s).rxBuf = s.rxBuf := rfl
@[simp] theorem State.beforeReset_rxSlot (s : State) : (State.beforeReset s).rxSlot = s.rxSlot := rfl
@[simp] theorem State.beforeReset_rxHead (s : State) : (State.beforeReset s).rxHead = s.rxHead := rfl
@[simp] theorem State.beforeReset_rxTail (s : State) : (State.beforeReset s).rxTail = s.rxTail := rfl
@[simp] theorem State.beforeReset_txState (s : State) : (State.beforeReset s).txState = s.txState := rfl
@[simp] theorem State.beforeReset_txSlot (s : State) : (State.beforeReset s).txSlot = s.txSlot := rfl
@[simp] theorem State.beforeReset_txHead (s : State) : (State.beforeReset s).txHead = s.txHead := rfl
@[simp] theorem State.beforeReset_txTail (s : State) : (State.beforeReset s).txTail = s.txTail := rfl
@[simp] theorem State.beforeReset_txeIe (s : State) : (State.beforeReset s).txeIe = s.txeIe := rfl
@[simp] theorem State.beforeReset_tcIe (s : State) : (State.beforeReset s).tcIe = s.tcIe := rfl
@[simp] theorem State.beforeReset_txEnabled (s : State) : (State.beforeReset s).txEnabled = s.txEnabled := rfl
@[simp] theorem State.beforeReset_timerArmed (s : State) : (State.beforeReset s).timerArmed = s.timerArmed := rfl
@[simp] theorem State.beforeReset_initialised (s : State) : (State.beforeReset s).initialised = false := rfl
@[simp] theorem State.beforeReset_out (s : State) : (State.beforeReset s).out = { byte := none, result := none } := rfl
@[simp] theorem State.beforeReset_ops (s : State) : (State.beforeReset s).ops = [] := rfl
@[simp] theorem State.beforeReset_draws (s : State) : (State.beforeReset s).draws = 0 := rfl

/-! ### afterReset -/

@[simp] theorem State.afterReset_rxState (s : State) : s.afterReset.rxState = .hunt := rfl
@[simp] theorem State.afterReset_rxBuf (s : State) : s.afterReset.rxBuf = Config.freeFrame s.draws := rfl
@[simp] theorem State.afterReset_rxSlot (s : State) : s.afterReset.rxSlot = Config.freeFrame (s.draws + 1) := rfl
@[simp] theorem State.afterReset_rxHead (s : State) : s.afterReset.rxHead = 0x00#8 := rfl
@[simp] theorem State.afterReset_rxTail (s : State) : s.afterReset.rxTail = 0x00#8 := rfl
@[simp] theorem State.afterReset_txState (s : State) : s.afterReset.txState = .idle := rfl
@[simp] theorem State.afterReset_txSlot (s : State) : s.afterReset.txSlot = Config.freeFrame (s.draws + 2) := rfl
@[simp] theorem State.afterReset_txHead (s : State) : s.afterReset.txHead = 0x00#8 := rfl
@[simp] theorem State.afterReset_txTail (s : State) : s.afterReset.txTail = 0x00#8 := rfl
@[simp] theorem State.afterReset_txeIe (s : State) : s.afterReset.txeIe = false := rfl
@[simp] theorem State.afterReset_tcIe (s : State) : s.afterReset.tcIe = false := rfl
@[simp] theorem State.afterReset_txEnabled (s : State) : s.afterReset.txEnabled = false := rfl
@[simp] theorem State.afterReset_timerArmed (s : State) : s.afterReset.timerArmed = false := rfl
@[simp] theorem State.afterReset_initialised (s : State) : s.afterReset.initialised = true := rfl
@[simp] theorem State.afterReset_out (s : State) : s.afterReset.out = { byte := none, result := none } := rfl
@[simp] theorem State.afterReset_ops (s : State) : s.afterReset.ops = s.ops := rfl
@[simp] theorem State.afterReset_draws (s : State) : s.afterReset.draws = s.draws + 3 := rfl

end Sys2Proof.Machine
end

