-- ==== Sys2Proof/Laws/Ops.lean ====
section
/-! SUPPORT. What `perform`, the one way an operation takes its step, can do; when an operation is refused; and each meaning
as one `perform`. -/

namespace Sys2Proof.Machine

/-- `perform` answers a next state exactly when the operation is enabled, and then it is the state given. -/
theorem perform_eq_next {i : Instr} {s after t : State} :
    perform i s after = .next t ↔ enabled i s = true ∧ after = t := by
  unfold perform enabled
  cases refusalOf i s <;> simp

/-- `perform` refuses exactly for the reason of `refusalOf`. -/
theorem perform_eq_refused {i : Instr} {s after : State} {why : Refusal} :
    perform i s after = .refused why ↔ refusalOf i s = some why := by
  unfold perform
  cases refusalOf i s <;> simp

theorem perform_of_enabled {i : Instr} {s : State} (h : enabled i s = true) (after : State) :
    perform i s after = .next after := perform_eq_next.2 ⟨h, rfl⟩

@[simp] theorem enabled_reset (s : State) : enabled .reset s = true := rfl

@[simp] theorem enabled_rxByte (b : Byte) (s : State) : enabled (.rxByte b) s = s.initialised := by
  cases h : s.initialised <;> simp [enabled, refusalOf, h]

@[simp] theorem enabled_tick (s : State) : enabled .tick s = s.initialised := by
  cases h : s.initialised <;> simp [enabled, refusalOf, h]

@[simp] theorem enabled_pktSend (f : Frame) (s : State) : enabled (.pktSend f) s = s.initialised := by
  cases h : s.initialised <;> simp [enabled, refusalOf, h]

@[simp] theorem enabled_pktRecv (s : State) : enabled .pktRecv s = s.initialised := by
  cases h : s.initialised <;> simp [enabled, refusalOf, h]

@[simp] theorem enabled_txe (s : State) : enabled .txe s = (s.initialised && s.txeIe) := by
  cases h : s.initialised <;> cases h' : s.txeIe <;> simp [enabled, refusalOf, h, h']

@[simp] theorem enabled_tc (s : State) : enabled .tc s = (s.initialised && s.tcIe) := by
  cases h : s.initialised <;> cases h' : s.tcIe <;> simp [enabled, refusalOf, h, h']

@[simp] theorem enabled_timer (s : State) : enabled .timer s = (s.initialised && s.timerArmed) := by
  cases h : s.initialised <;> cases h' : s.timerArmed <;> simp [enabled, refusalOf, h, h']

/-- Two counters differ exactly when a frame is pending. -/
theorem State.rxPending_iff (s : State) : s.rxPending = true ↔ s.rxHead ≠ s.rxTail := by simp [State.rxPending]

theorem State.txPending_iff (s : State) : s.txPending = true ↔ s.txHead ≠ s.txTail := by simp [State.txPending]

/-- A step takes the first word that waits. -/
theorem fetch_cons {s : State} {w : OpWord} {rest : List OpWord} (h : s.ops = w :: rest) :
    fetch s = some (w, { s with ops := rest }) := by simp [fetch, h]

theorem fetch_nil {s : State} (h : s.ops = []) : fetch s = none := by simp [fetch, h]

/-- What a step that answers a next state did: it took a waiting word, decoded it, and applied the operation. -/
theorem step_eq_next {s t : State} (h : step s = .next t) :
    ∃ w rest i, s.ops = w :: rest ∧ decode w = .ok i ∧ exec i { s with ops := rest } = .next t := by
  unfold step fetch at h
  cases ho : s.ops with
  | nil => simp [ho] at h
  | cons w rest =>
    simp only [ho] at h
    cases hd : decode w with
    | error e => simp [hd] at h
    | ok i => exact ⟨w, rest, i, rfl, hd, by simpa [hd] using h⟩

end Sys2Proof.Machine
end

