-- ==== Sys2Proof/Laws/PerInstr.lean ====
section
/-! SUPPORT. Statements made for each operation as syntax, one lemma for each constructor. -/

/-- The word the encoder writes lies in the opcode table's row of the same mnemonic. -/
def Sys2Proof.Laws.EncodedInRow.Statement (i : Sys2Proof.Instr) : Prop :=
  ∃ r ∈ Sys2Proof.opcodeTable, r.mnemonic = i.mnemonic ∧ r.covers (Sys2Proof.encode i) = true

namespace Sys2Proof.Laws.EncodedInRow

theorem reset : Statement .reset := by unfold Statement; decide
theorem rxByte (data : Byte) : Statement (.rxByte data) := by
  refine ⟨⟨"RX_BYTE", 0x000000001#36, 0xFFFFFF00F#36⟩, by simp [opcodeTable], rfl, ?_⟩
  revert data; decide
theorem txe : Statement .txe := by unfold Statement; decide
theorem tc : Statement .tc := by unfold Statement; decide
theorem timer : Statement .timer := by unfold Statement; decide
theorem tick : Statement .tick := by unfold Statement; decide
theorem pktSend (f : Frame) : Statement (.pktSend f) := by
  refine ⟨⟨"PKT_SEND", 0x000000006#36, 0x00000000F#36⟩, by simp [opcodeTable], rfl, ?_⟩
  simp only [TableRow.covers, encode, operandOf, opCode, beq_iff_eq]
  apply BitVec.eq_of_getLsbD_eq; intro i hi
  rw [BitVec.getLsbD_and, getLsbD_operand_op]
  rcases Nat.lt_or_ge i 4 with h | h
  · obtain rfl | rfl | rfl | rfl : i = 0 ∨ i = 1 ∨ i = 2 ∨ i = 3 := by omega
    all_goals rfl
  · have hm : ∀ j : Fin 36, 4 ≤ j.val → (0x00000000F#36).getLsbD j = false ∧ (0x000000006#36).getLsbD j = false := by decide
    have := hm ⟨i, hi⟩ h
    simp only at this
    rw [this.1, this.2, Bool.and_false]
theorem pktRecv : Statement .pktRecv := by unfold Statement; decide

end Sys2Proof.Laws.EncodedInRow
end

