-- ==== Sys2Proof/Tests/Slice0.lean ====
section
/-! SUPPORT. The model's own tests. Expected results are those of spec/95_test_vectors.md (W, V, T, Q, X and its decode table)
and of the rules named; a `witness` theorem shows a state and operands that meet the hypotheses of the statement of its name. -/

namespace Sys2Proof.Tests

open Sys2Proof.Machine
open Sys2Proof.Config (Params params params_legal someLegal)

/-! ## A concrete configuration and concrete states -/

/-- A configuration for the spec's symbolic vectors: `C[n]` is `n` above its complement, `S` is 0xFF, `S'` is 0x00, and `X` is
0x11. Both CRC cores are the same. -/
def config : Params :=
  { codebook := fun n => n ++ ~~~n
    syncCode := 0xFF#8
    syncRxSet := fun b => b == 0xFF#8 || b == 0x00#8
    crc5TxCore := fun a b c d => (a + 3#8 * b + 5#8 * c + 7#8 * d).extractLsb' 3 5
    crc5RxCore := fun a b c d => (a + 3#8 * b + 5#8 * c + 7#8 * d).extractLsb' 3 5
    txJoin := false
    baud := 1200
    idleGap := 3
    maxRun := 8 }

/-- A quiescent state with no frame pending and its counters about to wrap. -/
def idle : State :=
  { rxState := .hunt, rxBuf := ⟨0x40#8, 0x5A#8, 0x3F#8, 0xC0#8⟩, rxSlot := ⟨0x12#8, 0x34#8, 0x56#8, 0x78#8⟩
    rxHead := 0xFF#8, rxTail := 0xFF#8
    txState := .idle, txSlot := ⟨0xA7#8, 0x01#8, 0x3F#8, 0x3C#8⟩, txHead := 0xFF#8, txTail := 0xFF#8
    txeIe := false, tcIe := false, txEnabled := false, timerArmed := false, initialised := true
    out := ⟨some 0x00#8, none⟩, ops := [], draws := 3 }

/-- The receive framer in a given state. -/
def rxIn (r : RxState) : State := { idle with rxState := r }

/-- The serializer in a given state, driven, with a frame in the slot. -/
def sending (t : TxState) : State :=
  { idle with txState := t, txeIe := true, txEnabled := true, txHead := 0x00#8 }

/-- The serializer driven in `EOF` with the slot free. -/
def atEof : State := { sending .eof with txTail := 0x00#8 }

/-- A frame was just deposited while the transmitter was off. -/
def kicked : State := { sending .idle with txEnabled := false }

/-- TC is enabled; a frame waits or not. -/
def completing (waiting : Bool) : State :=
  { idle with tcIe := true, txEnabled := true, txHead := if waiting then 0x00#8 else 0xFF#8 }

/-- The idle gap runs for a frame. -/
def inGap : State := { idle with timerArmed := true, txEnabled := true, txHead := 0x00#8 }

/-- A state before the first RESET. -/
def unborn : State := State.beforeReset idle

/-- A frame whose check field is the receiver's CRC under the machine's configuration. -/
def goodFrame : Frame := ⟨withCheckField 0xA0#8 (params.crc5RxCore 0xBF#8 0x01#8 0x3F#8 0x00#8), 0x01#8, 0x3F#8, 0x00#8⟩

/-- A frame is pending in the inbound slot. -/
def received (f : Frame) : State := { idle with rxSlot := f, rxHead := 0x00#8 }

/-! ## WellFormed: what each check refuses -/

theorem test_config_is_legal : config.legal = true := by decide

/-- R58(a). -/
theorem test_refuses_repeated_symbol :
    { config with codebook := fun n => (n &&& 0x7#4) ++ ~~~(n &&& 0x7#4) }.legal = false := by decide

/-- R58(b). It follows from (c) and (d), so its own check is shown beside the whole. -/
theorem test_refuses_sync_code_in_codebook :
    Params.syncCodeNotData { config with syncCode := 0x0F#8 } = false ∧ { config with syncCode := 0x0F#8 }.legal = false := by
  decide

/-- R58(c). -/
theorem test_refuses_data_symbol_in_sync_set : { config with syncRxSet := fun b => b == 0xFF#8 || b == 0x1E#8 }.legal = false := by
  decide

/-- R58(d). -/
theorem test_refuses_unreceived_sync_code : { config with syncRxSet := fun b => b == 0x00#8 }.legal = false := by decide

/-- R6: positive quantities. -/
theorem test_refuses_zero_quantities :
    { config with baud := 0 }.legal = false ∧ { config with idleGap := 0 }.legal = false ∧
    { config with maxRun := 0 }.legal = false := by decide

/-- R64, R65: a reserved op code, a bare operation's operand, RX_BYTE's upper operand bits. -/
theorem test_refuses_ill_formed_words :
    wordWellFormed 0x000000008#36 = false ∧ wordWellFormed 0x00000000F#36 = false ∧ wordWellFormed 0x000000010#36 = false ∧
    wordWellFormed 0x800000007#36 = false ∧ wordWellFormed 0x000001001#36 = false ∧ wordWellFormed 0x000000FF1#36 = true := by
  decide

/-- R128: a program that applies a refused operation is ill-formed. -/
theorem test_refuses_ill_formed_program :
    programWellFormed [.rxByte 0xFF#8] unborn = false ∧ programWellFormed [.tick, .txe] idle = false ∧
    programWellFormed [.tick, .tick] idle = true := by decide

/-! ## Decode: a word from the spec for each constructor (95_test_vectors.md 2.1) -/

theorem test_decode_reset : decode 0x000000000#36 = .ok .reset := by decide
theorem test_decode_rxByte : decode 0x0000005A1#36 = .ok (.rxByte 0x5A#8) := by decide
theorem test_decode_txe : decode 0x000000002#36 = .ok .txe := by decide
theorem test_decode_tc : decode 0x000000003#36 = .ok .tc := by decide
theorem test_decode_timer : decode 0x000000004#36 = .ok .timer := by decide
theorem test_decode_tick : decode 0x000000005#36 = .ok .tick := by decide
theorem test_decode_pktSend : decode 0x7F55AA3F6#36 = .ok (.pktSend ⟨0x3F#8, 0xAA#8, 0x55#8, 0x7F#8⟩) := by decide
theorem test_decode_pktRecv : decode 0x000000007#36 = .ok .pktRecv := by decide

/-- R61, R62: the encoder writes the rules' example words. -/
theorem test_encode_examples :
    encode (.rxByte 0x5A#8) = 0x0000005A1#36 ∧ encode (.pktSend ⟨0xA0#8, 0x01#8, 0x3F#8, 0x00#8⟩) = 0x003F01A06#36 := by decide

/-- The host's numbering: the table gives every operation 36 bits, in 40. A bit above bit 35 makes no operation word. -/
theorem test_table_words :
    decodeTableWord 40 0x003F01A06 = some (.pktSend ⟨0xA0#8, 0x01#8, 0x3F#8, 0x00#8⟩) ∧
    decodeTableWord 36 0x000000007 = some .pktRecv ∧ decodeTableWord 8 0x02 = some .txe ∧
    decodeTableWord 40 0x1000000007 = none ∧ decodeTableWord 40 0x000001001 = none := by decide

/-- A step runs the presented word, and puts it out of the queue. -/
theorem test_step_runs_the_presented_word (s : State) : step (s.withFetchWord 40 0x0000000000) = exec .reset s := rfl

/-! ## Codec and CRC (95_test_vectors.md 2.2, 2.3) -/

theorem test_codec_vectors :
    encodeNibble config (0x1A#8) = config.codebook 0xA#4 ∧ decodeSymbol config (config.codebook 7#4) = .nibble 7#4 ∧
    decodeSymbol config 0xFF#8 = .sync ∧ decodeSymbol config 0x00#8 = .sync ∧ decodeSymbol config 0x11#8 = .invalid := by decide

theorem test_crc_vectors :
    crc5Tx config ⟨0xA5#8, 0x01#8, 0x3F#8, 0x00#8⟩ = config.crc5TxCore 0xBF#8 0x01#8 0x3F#8 0x00#8 ∧
    frameForSend config ⟨0xBF#8, 0x01#8, 0x3F#8, 0x00#8⟩ =
      ⟨0xA0#8 ||| (config.crc5TxCore 0xBF#8 0x01#8 0x3F#8 0x00#8).setWidth 8, 0x01#8, 0x3F#8, 0x00#8⟩ ∧
    frameForSend config ⟨0xFF#8, 0xFF#8, 0xFF#8, 0xFF#8⟩ =
      ⟨0xE0#8 ||| (config.crc5TxCore 0xFF#8 0xFF#8 0xFF#8 0xFF#8).setWidth 8, 0xFF#8, 0xFF#8, 0xFF#8⟩ := by decide

/-- 2.3, last row: a check field that is one bit off is not accepted. -/
theorem test_crc_check_vectors :
    let g := frameForSend config ⟨0xA0#8, 0x01#8, 0x3F#8, 0x00#8⟩
    crcCheck config g = true ∧ crcCheck config { g with b0 := g.b0 ^^^ 0x01#8 } = false := by decide

/-- G1: the character of 0x0F has both edges; its longest stretch without one is the start bit alone before four ones. -/
theorem test_uart_character :
    uartCharacter 0x0F#8 = [false, true, true, true, true, false, false, false, false, true] ∧
    hasTransition (dataBits 0x00#8) = false ∧ hasTransition (uartCharacter 0x00#8) = true ∧
    longestRun (dataBits 0x0F#8) = 4 ∧ longestRun (uartCharacter 0x00#8) = 9 := by decide

/-! ## Single steps -/

/-- V1 to V8. -/
theorem test_rxByte_alignment :
    (rxByteEffect config 0xFF#8 (rxIn .hunt)).rxState = .sync1 ∧ (rxByteEffect config 0x00#8 (rxIn .hunt)).rxState = .sync1 ∧
    (rxByteEffect config 0x11#8 (rxIn .hunt)).rxState = .hunt ∧
    (rxByteEffect config (config.codebook 9#4) (rxIn .hunt)).rxState = .hunt ∧
    (rxByteEffect config 0xFF#8 (rxIn .sync1)).rxState = .nib 0 ∧ (rxByteEffect config 0x11#8 (rxIn .sync1)).rxState = .sync1 ∧
    (rxByteEffect config (config.codebook 9#4) (rxIn .sync1)).rxState = .hunt ∧
    (rxByteEffect config 0xFF#8 (rxIn (.nib 0))).rxState = .sync1 := by decide

/-- V9 to V12, V14 to V16: packing, a dropped frame, and publishing to a free and to an occupied slot. -/
theorem test_rxByte_frame :
    (rxByteEffect config (config.codebook 9#4) (rxIn (.nib 0))).rxBuf.b0 = 0x49#8 ∧
    (rxByteEffect config (config.codebook 4#4) (rxIn (.nib 1))).rxState = .nib 2 ∧
    (rxByteEffect config 0x11#8 (rxIn (.nib 4))) = { rxIn .hunt with out := ⟨none, none⟩ } ∧
    (rxByteEffect config 0xFF#8 (rxIn (.nib 5))).rxState = .sync1 ∧
    (rxByteEffect config (config.codebook 0xE#4) (rxIn (.nib 7))) =
      { rxIn .hunt with
        rxBuf := ⟨0x40#8, 0x5A#8, 0x3F#8, 0xE0#8⟩, rxSlot := ⟨0x40#8, 0x5A#8, 0x3F#8, 0xE0#8⟩
        rxHead := 0x00#8, out := ⟨none, none⟩ } ∧
    (rxByteEffect config (config.codebook 0xE#4) { rxIn (.nib 7) with rxHead := 0x00#8 }).rxHead = 0x00#8 := by decide

/-- T1, T3, T4, T10, T11. -/
theorem test_txe_control :
    (txeEffect config kicked = { kicked with txEnabled := true, txeIe := false, timerArmed := true, out := ⟨none, none⟩ }) ∧
    (txeEffect config (sending .idle) = { sending .sync2 with out := ⟨some 0xFF#8, none⟩ }) ∧
    (txeEffect config (sending .sync4) = { sending (.pay 0) with out := ⟨some 0xFF#8, none⟩ }) ∧
    (txeEffect config (sending .eof) = { sending .idle with txeIe := false, tcIe := true, out := ⟨none, none⟩ }) ∧
    (txeEffect { config with txJoin := true } atEof = { atEof with txState := .idle, txeIe := false, tcIe := true, out := ⟨none, none⟩ }) := by
  decide

/-- T5 to T9. -/
theorem test_txe_payload :
    (txeEffect config (sending (.pay 0)) = { sending (.pay 1) with out := ⟨some (config.codebook 7#4), none⟩ }) ∧
    (txeEffect config (sending (.pay 1)) = { sending (.pay 2) with out := ⟨some (config.codebook 0xA#4), none⟩ }) ∧
    (txeEffect config (sending (.pay 7)) =
      { sending .eof with txTail := 0x00#8, out := ⟨some (config.codebook 3#4), none⟩ }) ∧
    (txeEffect { config with txJoin := true } (sending .eof) = { sending .sync2 with out := ⟨some 0xFF#8, none⟩ }) := by decide

/-- T12, T13, T15. -/
theorem test_tc :
    exec .tc (completing false) = .next { completing false with tcIe := false, txEnabled := false, out := ⟨none, none⟩ } ∧
    exec .tc (completing true) = .next { completing true with tcIe := false, timerArmed := true, out := ⟨none, none⟩ } ∧
    exec .tc idle = .refused .tcNotEnabled := ⟨rfl, rfl, rfl⟩

/-- T2, T16. -/
theorem test_timer :
    exec .timer inGap = .next { inGap with timerArmed := false, txeIe := true, out := ⟨none, none⟩ } ∧
    exec .timer idle = .refused .timerNotArmed := ⟨rfl, rfl⟩

/-- T17, and T14 for TXE. -/
theorem test_tick :
    exec .tick inGap = .next { inGap with out := ⟨none, none⟩ } ∧ exec .txe inGap = .refused .txeNotEnabled := ⟨rfl, rfl⟩

/-- Q1, Q4 (the head counter wraps), Q2. -/
theorem test_pktSend_accepts_and_is_busy :
    let s := pktSendEffect config ⟨0xBF#8, 0x01#8, 0x3F#8, 0x00#8⟩ idle
    (s = { kicked with txSlot := frameForSend config ⟨0xA0#8, 0x01#8, 0x3F#8, 0x00#8⟩, out := ⟨none, some (.sent true)⟩ }) ∧
    (pktSendEffect config ⟨0#8, 0#8, 0#8, 0#8⟩ s = { s with out := ⟨none, some (.sent false)⟩ }) := by decide

/-- Q3: in the window at `EOF` no kick. -/
theorem test_pktSend_without_kick :
    (pktSendEffect config ⟨0#8, 0#8, 0#8, 0#8⟩ (completing false)).txeIe = false ∧
    (pktSendEffect config ⟨0#8, 0#8, 0#8, 0#8⟩ (completing false)).txHead = 0x00#8 := by decide

/-- Q6, Q8 (the tail counter wraps). -/
theorem test_pktRecv_delivers :
    let g := frameForSend config ⟨0xA0#8, 0x01#8, 0x3F#8, 0x00#8⟩
    pktRecvEffect config (received g) = { received g with rxTail := 0x00#8, out := ⟨none, some (.received (some g))⟩ } := by decide

/-- Q5, Q7. -/
theorem test_pktRecv_answers_none :
    let g := frameForSend config ⟨0xA0#8, 0x01#8, 0x3F#8, 0x00#8⟩
    pktRecvEffect config idle = { idle with out := ⟨none, some (.received none)⟩ } ∧
    pktRecvEffect config (received { g with b1 := 0x09#8 }) =
      { received { g with b1 := 0x09#8 } with rxTail := 0x00#8, out := ⟨none, some (.received none)⟩ } := by decide

/-- X1, and R149: a run starts with RESET. -/
theorem test_refused_before_reset :
    exec (.rxByte 0xFF#8) (State.beforeReset idle) = .refused .notInitialised ∧ runFromStart [.tick] idle = none := ⟨rfl, rfl⟩

/-- X2, X3: in the middle of two frames. -/
theorem test_reset_mid_frame :
    ∃ t, exec .reset { sending (.pay 3) with rxState := .nib 5 } = .next t ∧ t.rxState = .hunt ∧ t.txState = .idle ∧
      t.txPending = false ∧ t.txeIe = false ∧ t.txEnabled = false ∧ t.initialised = true := ⟨_, rfl, rfl, rfl, rfl, rfl, rfl, rfl⟩

/-! ## Pseudo-operations and the text form (30_encoding.md R68, R69) -/

theorem test_pseudo_operations :
    txRunQuiescent.length = 16 ∧ txRunQuiescent.count .txe = 14 ∧
    rxFrame config ⟨0xA7#8, 0x01#8, 0x3F#8, 0x00#8⟩ =
      [.rxByte 0xFF#8, .rxByte 0xFF#8, .rxByte 0xFF#8, .rxByte 0xFF#8, .rxByte 0x78#8, .rxByte 0xA5#8, .rxByte 0x1E#8, .rxByte 0x0F#8,
       .rxByte 0xF0#8, .rxByte 0x3C#8, .rxByte 0x0F#8, .rxByte 0x0F#8] := by decide

theorem test_line_text :
    (AsmLine.mk (.rxByte (.codebook 0xA#4)) none none none).text = "RX_BYTE CODEBOOK[0xA]" ∧
    (AsmLine.mk .txe none (some .syncCode) (some "first")).text = "TXE -> SYNC_CODE ; first" ∧
    (AsmLine.mk .pktRecv (some (.received none)) none none).text = "PKT_RECV => none" := by decide

/-! ## Witnesses: for each statement with hypotheses, a state and operands that meet them -/

theorem config_syncCode_received : params.syncRxSet params.syncCode = true := params.syncCode_received params_legal

theorem goodFrame_checks : crcCheck params goodFrame = true := by
  have h : ∀ k : Crc5, withCheckField 0xA0#8 k ||| 0x1F#8 = 0xBF#8 ∧ checkField (withCheckField 0xA0#8 k) = k := by decide
  simp [crcCheck, crc5Rx, crcUnder, goodFrame, h]

/-- Both verdicts, at the lowest and the highest must-be-zero bit. -/
theorem witness_RxByteWordHoldsItsData :
    (0x0000005A1#36).extractLsb' 0 4 = 0x1#4 ∧ (0x0000005A1#36).extractLsb' 12 24 = 0#24 ∧
    (0x000001001#36).extractLsb' 0 4 = 0x1#4 ∧ (0x000001001#36).extractLsb' 12 24 ≠ 0#24 ∧
    (0x800000001#36).extractLsb' 0 4 = 0x1#4 ∧ (0x800000001#36).extractLsb' 12 24 ≠ 0#24 := by decide

theorem witness_PktSendWordHoldsItsFrame :
    (0xFFFFFFFF6#36).extractLsb' 0 4 = 0x6#4 ∧ (0x000000006#36).extractLsb' 0 4 = 0x6#4 := by decide

theorem witness_EncodeOfDecode : decode 0xFFFFFFFF6#36 = .ok (.pktSend ⟨0xFF#8, 0xFF#8, 0xFF#8, 0xFF#8⟩) := by decide

theorem witness_InvalidWordsAreRefused :
    ({ idle with ops := [0x000000008#36] }.ops = 0x000000008#36 :: [] ∧ decode 0x000000008#36 = .error .reservedOp) ∧
    ({ idle with ops := [0xFFFFFFFFF#36] }.ops = 0xFFFFFFFFF#36 :: [] ∧ decode 0xFFFFFFFFF#36 = .error .reservedOp) ∧
    ({ idle with ops := [0x000001001#36] }.ops = 0x000001001#36 :: [] ∧ decode 0x000001001#36 = .error .nonzeroMbz) ∧
    ({ idle with ops := [0x000000017#36] }.ops = 0x000000017#36 :: [] ∧ decode 0x000000017#36 = .error .nonzeroMbz) := by decide

theorem witness_OpcodeTableDecides :
    ∃ r ∈ opcodeTable, r.covers 0x000000FF1#36 = true := by decide

theorem witness_StepAppliesTheDecodedOperation :
    ({ idle with ops := [0x000000005#36, 0x000000007#36] }.ops = 0x000000005#36 :: [0x000000007#36] ∧
      decode 0x000000005#36 = .ok .tick) ∧ idle.ops = [] := by decide

/-- A byte that is a symbol and one that is not, under a legal configuration; also for the next two statements. -/
theorem witness_DecodeTableInvertsCodebook :
    config.legal = true ∧ config.codebook 0xF#4 = 0xF0#8 ∧ ∀ n, config.codebook n ≠ 0x11#8 := by decide

theorem witness_SyncTestOrderDoesNotMatter : config.legal = true := test_config_is_legal

theorem witness_SymbolClassesPartitionBytes : config.legal = true := test_config_is_legal

theorem witness_SentFramePassesCheckUnderRT : RT config := rfl

theorem witness_AfterResetOnlyReceiveIsLive : ∃ t, exec .reset unborn = .next t := ⟨_, rfl⟩

theorem witness_ResetStateIsWhatResetLeaves : { unborn with draws := 0 }.draws = 0 ∧ { unborn with draws := 0 }.ops = [] := by
  decide

theorem witness_RefusedBeforeFirstReset : unborn.initialised = false ∧ Instr.pktRecv ≠ .reset := by decide

/-- An invalid word waits; one state for each reason of a refusal, and one without; a program whose second operation is refused. -/
theorem witness_RefusedExactlyWhenNotEnabled :
    ({ idle with ops := [0x00000000F#36] }.ops = 0x00000000F#36 :: [] ∧ decode 0x00000000F#36 = .error .reservedOp) ∧
    (unborn.initialised = false ∧ Instr.tick ≠ .reset) ∧ idle.txeIe = false ∧ idle.tcIe = false ∧ idle.timerArmed = false ∧
    (kicked.initialised = true ∧ kicked.txeIe = true) ∧
    (∃ outs t, run [.tick] idle = some (outs, t) ∧ ∃ why, exec .txe t = .refused why) :=
  ⟨by decide, by decide, rfl, rfl, rfl, by decide, _, _, rfl, _, rfl⟩

/-- Every class of byte, and the framer in its first and last payload state. -/
theorem witness_RxByteFollowsItsTable :
    (rxIn .hunt).initialised = true ∧ (rxIn .sync1).initialised = true ∧ (rxIn (.nib 0)).initialised = true ∧
    (rxIn (.nib 7)).initialised = true ∧ decodeSymbol params params.syncCode = .sync ∧
    decodeSymbol params (params.codebook 0xF#4) = .nibble 0xF#4 := by
  have hs : decodeSymbol params params.syncCode = .sync := decodeSymbol_eq_sync.2 config_syncCode_received
  refine ⟨rfl, rfl, rfl, rfl, hs, ?_⟩
  have hn := Params.codebook_not_sync params_legal 0xF#4
  unfold decodeSymbol
  rw [hn]
  cases h : decodeTable params (params.codebook 0xF#4) with
  | none => exact absurd rfl (decodeTable_eq_none.1 h 0xF#4)
  | some n => simp [Params.codebook_injective params_legal (codebook_of_decodeTable h)]

/-- (a), (b) from `HUNT` and from a payload state, (c) from `SYNC_1`. -/
theorem witness_TwoMarkersResynchronise :
    ((rxIn .hunt).initialised = true ∧ (rxIn .hunt).rxState = .hunt ∧
      ∀ b ∈ [params.codebook 0#4, params.codebook 0xF#4], params.syncRxSet b = false) ∧
    params.syncRxSet params.syncCode = true ∧ (rxIn (.nib 7)).rxState ≠ .sync1 ∧ (rxIn .hunt).rxState ≠ .sync1 ∧
    (rxIn .sync1).rxState = .sync1 := by
  refine ⟨⟨rfl, rfl, ?_⟩, config_syncCode_received, by decide, by decide, rfl⟩
  intro b hb
  simp only [List.mem_cons, List.not_mem_nil, or_false] at hb
  rcases hb with rfl | rfl <;> exact Params.codebook_not_sync params_legal _

theorem witness_NibbleCountMatchesHistory : (rxIn .hunt).initialised = true ∧ (rxIn .hunt).rxState = .hunt := by decide

/-- A state and bytes for which the first clause speaks of a frame; the second clause speaks of the empty history. -/
theorem witness_PublishesExactlyWholeFrames :
    (rxIn .hunt).initialised = true ∧ (rxIn .hunt).rxState = .hunt ∧
    (let g : Frame := ⟨0x00#8, 0x01#8, 0x3F#8, 0xFF#8⟩
     ([params.syncCode, params.syncCode] ++ (g.nibbles.take 7).map params.codebook) ++ [params.codebook (g.nibble 7)] =
        [params.syncCode] ++ params.syncCode :: wireSymbols params g ∧
      params.syncRxSet params.syncCode = true ∧
      ∃ outs v, run ([params.syncCode].map .rxByte) (rxIn .hunt) = some (outs, v) ∧ v.rxState = .sync1) := by
  refine ⟨rfl, rfl, rfl, config_syncCode_received, _, _, rfl, ?_⟩
  show ((rxIn .hunt).rxFields.next (rxIn .hunt).rxTail (decodeSymbol params params.syncCode)).state = .sync1
  rw [decodeSymbol_eq_sync.2 config_syncCode_received]
  rfl

theorem witness_WireFrameIsReceived : (rxIn (.nib 3)).initialised = true ∧ (rxIn (.nib 3)).rxState ≠ .sync1 := by decide

theorem witness_OddSyncCountLosesTheFrame : (rxIn .sync1).initialised = true ∧ (rxIn .sync1).rxState = .sync1 := by decide

theorem witness_TxeIdleDisabledArmsTimer :
    kicked.initialised = true ∧ kicked.txeIe = true ∧ kicked.txState = .idle ∧ kicked.txEnabled = false := by decide

theorem witness_TxeIdleStartsFrame :
    let s := sending .idle
    s.initialised = true ∧ s.txeIe = true ∧ s.txState = .idle ∧ s.txEnabled = true ∧ s.txHead ≠ s.txTail := by decide

theorem sending_control (t : TxState) : TxControlInv (sending t) := by
  constructor <;> simp [sending, idle, State.txPending]

theorem idle_control : TxControlInv idle := by
  refine ⟨by decide, by decide, by decide, by decide, by decide⟩

theorem idle_drive : TxDriveInv idle := by
  refine ⟨by decide, by decide, by decide⟩

/-- For the second clause, whose conclusion is that a case does not arise: a reached
state in which all but the last of its conditions hold. -/
theorem witness_TxeIdleNothingArmsCompletion :
    (let s : State := { sending .idle with txTail := 0x00#8 }
     s.initialised = true ∧ s.txeIe = true ∧ s.txState = .idle ∧ s.txEnabled = true ∧ s.txHead = s.txTail) ∧
    (∃ outs t, run [.reset, .pktSend ⟨0#8, 0#8, 0#8, 0#8⟩, .txe, .timer] unborn = some (outs, t) ∧ t.txeIe = true ∧
      t.txState = .idle ∧ t.txEnabled = true) :=
  ⟨by decide, _, _, rfl, rfl, rfl, rfl⟩

theorem witness_TxeSyncEmitsSync :
    ∀ t ∈ [TxState.sync2, .sync3, .sync4],
      (sending t).initialised = true ∧ (sending t).txeIe = true ∧ (sending t).txState = t := by decide

/-- The first nibble, the last before the tail advances, and the last. -/
theorem witness_TxePayloadEmitsNibble :
    ∀ p ∈ [((0 : Fin 8), (0 : Fin 4)), (6, 3), (7, 3)],
      (sending (.pay p.1)).initialised = true ∧ (sending (.pay p.1)).txeIe = true ∧
      (sending (.pay p.1)).txState = .pay p.1 ∧ p.2.val = p.1.val / 2 := by decide

/-- With a frame pending and without. -/
theorem witness_TxeEofJoinsOrArmsCompletion :
    ∀ s ∈ [sending .eof, atEof], s.initialised = true ∧ s.txeIe = true ∧ s.txState = .eof := by decide

theorem witness_TcRearmsTimerOrDisables :
    (∀ w, (completing w).initialised = true ∧ (completing w).tcIe = true) ∧ (idle.initialised = true ∧ idle.tcIe = false) ∧
    unborn.initialised = false := by decide

theorem witness_TimerEnablesTxe :
    (inGap.initialised = true ∧ inGap.timerArmed = true) ∧ (idle.initialised = true ∧ idle.timerArmed = false) ∧
    unborn.initialised = false ∧
    (∃ outs t, run [.reset, .pktSend ⟨0#8, 0#8, 0#8, 0#8⟩, .txe] unborn = some (outs, t) ∧ t.timerArmed = true) :=
  ⟨⟨rfl, rfl⟩, ⟨rfl, rfl⟩, rfl, _, _, rfl, rfl⟩

theorem witness_TickChangesNothing : inGap.initialised = true := rfl

/-- Busy, accepted with a kick, accepted without. -/
theorem witness_PktSendDepositsOrIsBusy :
    (kicked.initialised = true ∧ kicked.txHead ≠ kicked.txTail) ∧
    (idle.initialised = true ∧ idle.txHead = idle.txTail ∧ idle.txEnabled = false) ∧
    (atEof.initialised = true ∧ atEof.txHead = atEof.txTail ∧ atEof.txEnabled = true) := by decide

theorem witness_PktRecvConsumesTheFrame :
    (idle.initialised = true ∧ idle.rxHead = idle.rxTail) ∧
    ((received ⟨0#8, 0#8, 0#8, 0#8⟩).initialised = true ∧
      (received ⟨0#8, 0#8, 0#8, 0#8⟩).rxHead ≠ (received ⟨0#8, 0#8, 0#8, 0#8⟩).rxTail) := by decide

theorem received_delivers :
    exec .pktRecv (received goodFrame) =
      .next { received goodFrame with rxTail := 0x00#8, out := ⟨none, some (.received (some goodFrame))⟩ } := by
  show Host.Outcome.next (pktRecvEffect params (received goodFrame)) = _
  have h : pktRecvEffect params (received goodFrame) =
      if crcCheck params goodFrame then (received goodFrame).advanceRxTail.answer (.received (some goodFrame))
      else (received goodFrame).advanceRxTail.answer (.received none) := rfl
  rw [h, goodFrame_checks]
  rfl

/-- A delivery; and for the last clause a frame whose check field is one bit off. -/
theorem witness_UncheckedFrameIsNeverDelivered :
    (∃ t, exec .pktRecv (received goodFrame) = .next t ∧ t.out.result = some (.received (some goodFrame))) ∧
    (let bad : Frame := { goodFrame with b0 := withCheckField 0xA0#8 (params.crc5RxCore 0xBF#8 0x01#8 0x3F#8 0x00#8 + 1) }
     (received bad).initialised = true ∧ (received bad).rxPending = true ∧ crcCheck params bad = false) := by
  refine ⟨⟨_, received_delivers, rfl⟩, rfl, rfl, ?_⟩
  have h : ∀ k : Crc5, withCheckField 0xA0#8 (k + 1) ||| 0x1F#8 = 0xBF#8 ∧ checkField (withCheckField 0xA0#8 (k + 1)) = k + 1 ∧
      ¬k = k + 1 := by decide
  show (params.crc5RxCore (withCheckField 0xA0#8 (_ + 1) ||| 0x1F#8) 0x01#8 0x3F#8 0x00#8 ==
    checkField (withCheckField 0xA0#8 (_ + 1))) = false
  rw [(h _).1, (h _).2.1]
  simp

theorem received_counters (f : Frame) : CounterInv (received f) := by
  refine ⟨Or.inr ?_, Or.inl ?_⟩
  · show (0x00#8 : Counter) - 0xFF#8 = _; decide
  · show (0xFF#8 : Counter) - 0xFF#8 = _; decide

theorem witness_PublishedFrameIsDeliveredOnce :
    CounterInv (received goodFrame) ∧ ∃ t, exec .pktRecv (received goodFrame) = .next t :=
  ⟨received_counters _, _, rfl⟩

/-- A step of a driven serializer, of the foreground, and of the receiver. -/
theorem witness_StepKeepsCounterInvariant :
    let s : State := { sending (.pay 7) with ops := [0x000000002#36] }
    CounterInv s ∧ TxControlInv s ∧ ∃ t, step s = .next t :=
  ⟨⟨Or.inl (by decide), Or.inr (by decide)⟩, ⟨by decide, by decide, by decide, by decide, by decide⟩, _, rfl⟩

theorem witness_StepKeepsTransmitControl :
    let s : State := { completing true with ops := [0x000000003#36] }
    TxControlInv s ∧ ∃ t, step s = .next t :=
  ⟨⟨by decide, by decide, by decide, by decide, by decide⟩, _, rfl⟩

theorem witness_StepKeepsTransmitDrive :
    let s : State := { idle with ops := [0x003F01A06#36] }
    TxControlInv s ∧ TxDriveInv s ∧ ∃ t, step s = .next t :=
  ⟨⟨by decide, by decide, by decide, by decide, by decide⟩, ⟨by decide, by decide, by decide⟩, _, rfl⟩

theorem witness_QueuedFrameIsSent :
    kicked.initialised = true ∧ CounterInv kicked ∧ TxControlInv kicked ∧ TxDriveInv kicked ∧ kicked.txPending = true :=
  ⟨rfl, ⟨Or.inl (by decide), Or.inr (by decide)⟩, ⟨by decide, by decide, by decide, by decide, by decide⟩,
    ⟨by decide, by decide, by decide⟩, rfl⟩

theorem witness_EveryStateReachedFromReset :
    ∃ outs t, run [.reset, .pktSend ⟨0xA0#8, 0x01#8, 0x3F#8, 0x00#8⟩, .txe, .timer] unborn = some (outs, t) := ⟨_, _, rfl⟩

theorem witness_QueuedFrameStaysInItsSlot :
    (∃ t, exec .txe (sending (.pay 7)) = .next t) ∧ Instr.txe ≠ .reset ∧ TxControlInv (sending (.pay 7)) ∧
    (sending (.pay 7)).txState ≠ .idle ∧ (sending (.pay 7)).txState ≠ .eof ∧ (sending (.pay 7)).txPending = true :=
  ⟨⟨_, rfl⟩, by decide, sending_control _, by decide, by decide, rfl⟩

theorem witness_AcceptedFrameIsEmittedWhole :
    TxControlInv idle ∧
    ∃ t u outs, exec (.pktSend ⟨0xA0#8, 0x01#8, 0x3F#8, 0x00#8⟩) idle = .next t ∧ t.out.result = some (.sent true) ∧
      Instr.reset ∉ [Instr.txe, .timer, .txe] ∧ run [.txe, .timer, .txe] t = some (outs, u) ∧ (byteStream outs).length < 12 :=
  ⟨idle_control, _, _, _, rfl, rfl, by decide, rfl, by decide⟩

/-- Both clauses, with a frame that waits and the transmitter off, and after a TC that found one. -/
theorem witness_NoByteWithoutIdleGap :
    (TxControlInv kicked ∧ kicked.txEnabled = false ∧ Instr.timer ∉ [Instr.txe, .tick] ∧
      ∃ outs u, run [.txe, .tick] kicked = some (outs, u)) ∧
    (TxControlInv (completing true) ∧
      ∃ t outs u, exec .tc (completing true) = .next t ∧ Instr.timer ∉ [Instr.tick] ∧ run [.tick] t = some (outs, u)) :=
  ⟨⟨⟨by decide, by decide, by decide, by decide, by decide⟩, rfl, by decide, _, _, rfl⟩,
    ⟨by decide, by decide, by decide, by decide, by decide⟩, _, _, _, rfl, by decide, rfl⟩

theorem witness_OneFrameFromQuiescent :
    idle.initialised = true ∧ TxControlInv idle ∧ idle.txEnabled = false ∧ idle.txPending = false :=
  ⟨rfl, idle_control, rfl, rfl⟩

theorem witness_SentFrameCrossesTheLink :
    (idle.initialised = true ∧ TxControlInv idle ∧ idle.txEnabled = false ∧ idle.txPending = false) ∧
    (rxIn (.nib 2)).initialised = true ∧ (rxIn (.nib 2)).rxState ≠ .sync1 ∧ (rxIn (.nib 2)).rxPending = false :=
  ⟨witness_OneFrameFromQuiescent, by decide⟩

theorem witness_SecondFrameReplacesTheFirst :
    idle.initialised = true ∧ idle.rxState ≠ .sync1 ∧ idle.rxPending = false := by decide

theorem witness_QuiescentEnablesNoTransmitEvent : idle.initialised = true ∧ quiescent idle = true := by decide

/-- Both clauses, each with another state that differs in the other half only. -/
theorem witness_HalvesShareNoState :
    (inTransmitHalf .txe = true ∧ (∃ t, exec .txe (sending .sync2) = .next t) ∧
      SameTransmitHalf (sending .sync2) { sending .sync2 with rxState := .nib 3, rxHead := 0x07#8 }) ∧
    (inReceiveHalf .pktRecv = true ∧ (∃ t, exec .pktRecv idle = .next t) ∧
      SameReceiveHalf idle { idle with txState := .eof, txeIe := true }) :=
  ⟨⟨rfl, ⟨_, rfl⟩, rfl, rfl, rfl, rfl, rfl, rfl, rfl, rfl⟩, rfl, ⟨_, rfl⟩, rfl, rfl, rfl, rfl, rfl⟩

/-- Both orders. -/
theorem witness_HalvesCommute :
    (inReceiveHalf (.rxByte 0x11#8) = true ∧ inTransmitHalf .txe = true ∧
      ∃ t u, exec (.rxByte 0x11#8) (sending .sync2) = .next t ∧ exec .txe t = .next u) ∧
    (inTransmitHalf (.pktSend ⟨0#8, 0#8, 0#8, 0#8⟩) = true ∧ inReceiveHalf .pktRecv = true ∧
      ∃ t u, exec (.pktSend ⟨0#8, 0#8, 0#8, 0#8⟩) idle = .next t ∧ exec .pktRecv t = .next u) :=
  ⟨⟨rfl, rfl, _, _, rfl, rfl⟩, rfl, rfl, _, _, rfl, rfl⟩

/-- A step that moves a tail counter: the others of the statement's premises are met alike. -/
theorem witness_EachFieldHasItsWriters :
    ∃ t, exec .txe (sending (.pay 7)) = .next t ∧ Instr.txe ≠ .reset ∧ t.txTail ≠ (sending (.pay 7)).txTail ∧
      t.txState ≠ (sending (.pay 7)).txState ∧ t.out.byte ≠ none := by
  refine ⟨_, rfl, by decide, by decide, by decide, by simp [txeEffect, State.payloadStep, sending, idle]⟩

/-- Two states that do differ: in both slots, in a nibble of the assembly buffer still to come, and in the draws. -/
theorem witness_AnyValueFieldsAreUnobservable :
    let s : State := rxIn (.nib 2)
    let t : State :=
      { rxIn (.nib 2) with
        rxBuf := ⟨0x40#8, 0x5B#8, 0x3F#8, 0xC0#8⟩, rxSlot := ⟨0#8, 0#8, 0#8, 0#8⟩, txSlot := ⟨0#8, 0#8, 0#8, 0#8⟩, draws := 9 }
    TxControlInv s ∧ SameButUnobservable s t ∧ s ≠ t ∧ ∃ s', exec (.rxByte 0xF0#8) s = .next s' := by
  refine ⟨⟨by decide, by decide, by decide, by decide, by decide⟩, ?_, by decide, _, rfl⟩
  constructor <;> try rfl
  · intro h; exact absurd h (by decide)
  · intro h; exact absurd h (by decide)
  · intro k hk j hj
    cases hk
    revert j; decide

theorem witness_CounterValuesDoNotMatter : Instr.pktRecv ≠ .reset := by decide

/-- A run from the state before any operation; and a state in which `initialised` is 0. -/
theorem witness_InitialisedIsZeroUntilReset :
    (∃ outs t, runFromStart [.reset, .pktRecv] idle = some (outs, t)) ∧
    (State.beforeReset idle).initialised = false ∧ Instr.pktRecv ≠ .reset := ⟨⟨_, _, rfl⟩, rfl, by decide⟩

end Sys2Proof.Tests
end

section
/-! PROOFS, part 1. Rules of the whole machine: an operation's effect where it is enabled, a run's first operation, and the
facts about RESET and `initialised` (10_state.md R29, R36). -/

namespace Sys2Proof.Machine

open Sys2Proof.Config (params)

/-! ## One effect for each operation -/

/-- The state an operation leaves where it is enabled. -/
def effect (i : Instr) (s : State) : State :=
  match i with
  | .reset => s.afterReset
  | .rxByte b => rxByteEffect params b s
  | .txe => txeEffect params s
  | .tc => s.completeTransmission.silent
  | .timer => s.timerElapsed.silent
  | .tick => s.silent
  | .pktSend f => pktSendEffect params f s
  | .pktRecv => pktRecvEffect params s

theorem exec_eq_perform (i : Instr) (s : State) : exec i s = perform i s (effect i s) := by
  cases i <;> rfl

/-- An operation answers a next state exactly when it is enabled, and then that state is its effect. -/
theorem exec_eq_next {i : Instr} {s t : State} : exec i s = .next t ↔ enabled i s = true ∧ effect i s = t := by
  rw [exec_eq_perform, perform_eq_next]

theorem exec_of_enabled {i : Instr} {s : State} (h : enabled i s = true) : exec i s = .next (effect i s) :=
  exec_eq_next.2 ⟨h, rfl⟩

theorem exec_reset (s : State) : exec .reset s = .next s.afterReset := rfl

/-- Before the first RESET every operation but RESET is refused (10_state.md R29). -/
theorem exec_of_not_initialised {i : Instr} {s : State} (h : s.initialised = false) (hi : i ≠ .reset) :
    exec i s = .refused .notInitialised := by
  rw [exec_eq_perform, perform_eq_refused]
  cases i with
  | reset => exact absurd rfl hi
  | _ => simp [refusalOf, h]

theorem initialised_of_enabled {i : Instr} {s : State} (h : enabled i s = true) (hi : i ≠ .reset) : s.initialised = true := by
  by_contra h0
  have refused := exec_of_not_initialised (Bool.eq_false_iff.2 h0) hi
  rw [exec_of_enabled h] at refused
  cases refused

/-! ## Runs -/

/-- A run applies its first operation and goes on from the state that leaves. -/
theorem run_cons_eq_some {i : Instr} {is : List Instr} {s u : State} {outs : List Out} :
    run (i :: is) s = some (outs, u) ↔
      ∃ t outs', exec i s = .next t ∧ run is t = some (outs', u) ∧ outs = t.out :: outs' := by
  rw [run]
  cases exec i s with
  | next t =>
    cases hr : run is t with
    | none => simp [hr]
    | some p => simp [hr, Prod.ext_iff, and_comm, eq_comm]
  | fault r => simp
  | refused r => simp

/-- What every operation keeps holds at the end of a run that it holds at the start of. -/
theorem run_keeps {P : State → Prop} (keeps : ∀ i s t, P s → exec i s = .next t → P t) :
    ∀ {is : List Instr} {s u : State} {outs : List Out}, P s → run is s = some (outs, u) → P u
  | [], s, u, outs, h, hr => by
    obtain ⟨-, rfl⟩ : [] = outs ∧ s = u := by simpa [run] using hr
    exact h
  | i :: is, s, u, outs, h, hr => by
    obtain ⟨t, outs', ht, hr', -⟩ := run_cons_eq_some.1 hr
    exact run_keeps keeps (keeps i s t h ht) hr'

/-- What RESET establishes and every operation keeps holds in every state that a run from RESET reaches. -/
theorem run_reset_reaches {P : State → Prop} (init : ∀ s : State, P s.afterReset)
    (keeps : ∀ i s t, P s → exec i s = .next t → P t) {is : List Instr} {s u : State} {outs : List Out}
    (hr : run (.reset :: is) s = some (outs, u)) : P u := by
  obtain ⟨t, outs', ht, hr', -⟩ := run_cons_eq_some.1 hr
  obtain rfl : s.afterReset = t := by simpa [exec_reset] using ht
  exact run_keeps keeps (init s) hr'

end Sys2Proof.Machine
end

section
/-! PROOFS, part 2. What each operation's effect is, row by row: the transmit table (42_tx_framer.md R105), the receive table
(41_rx_framer.md R91), TC, and the two packet queue operations. -/

namespace Sys2Proof.Machine

open Sys2Proof.Config (Params)

/-! ## The transmit framer -/

/-- The rows of the serializer's table (42_tx_framer.md R105): the state TXE leaves, under the row's condition. -/
inductive TxeRow (c : Params) (s : State) : State → Prop
  | startGap (idle : s.txState = .idle) (off : s.txEnabled = false) :
      TxeRow c s { s with txEnabled := true, txeIe := false, timerArmed := true, out := ⟨none, none⟩ }
  | startFrame (idle : s.txState = .idle) (on : s.txEnabled = true) (pending : s.txPending = true) :
      TxeRow c s { s with txState := .sync2, out := ⟨some c.syncCode, none⟩ }
  | nothingToSend (idle : s.txState = .idle) (on : s.txEnabled = true) (free : s.txPending = false) :
      TxeRow c s { s with txeIe := false, tcIe := true, out := ⟨none, none⟩ }
  | sync2 (inState : s.txState = .sync2) : TxeRow c s { s with txState := .sync3, out := ⟨some c.syncCode, none⟩ }
  | sync3 (inState : s.txState = .sync3) : TxeRow c s { s with txState := .sync4, out := ⟨some c.syncCode, none⟩ }
  | sync4 (inState : s.txState = .sync4) : TxeRow c s { s with txState := .pay 0, out := ⟨some c.syncCode, none⟩ }
  | nibble {k : Fin 8} (inState : s.txState = .pay k) (lt : k.val < 7) :
      TxeRow c s { s with txState := .pay (k + 1), out := ⟨some (encodeNibble c (s.txSlot.nibble k)), none⟩ }
  | lastNibble (inState : s.txState = .pay 7) :
      TxeRow c s
        { s with
          txState := .eof, txTail := s.txTail + 1, out := ⟨some (encodeNibble c (s.txSlot.nibble 7)), none⟩ }
  | join (inState : s.txState = .eof) (joins : (c.txJoin && s.txPending) = true) :
      TxeRow c s { s with txState := .sync2, out := ⟨some c.syncCode, none⟩ }
  | finish (inState : s.txState = .eof) (ends : (c.txJoin && s.txPending) = false) :
      TxeRow c s { s with txState := .idle, txeIe := false, tcIe := true, out := ⟨none, none⟩ }

/-- TXE leaves what the row says whose condition holds. -/
theorem TxeRow.txeEffect_eq {c : Params} {s u : State} (row : TxeRow c s u) : txeEffect c s = u := by
  cases row with
  | startGap idle off => simp [txeEffect, idle, State.idleStep, off, State.idleDisabled, State.startIdleGap, State.silent]
  | startFrame idle on pending => simp [txeEffect, idle, State.idleStep, on, pending, State.startFrame, State.emit]
  | nothingToSend idle on free =>
    simp [txeEffect, idle, State.idleStep, on, free, State.idleNothing, State.armCompletion, State.silent]
  | sync2 inState => simp [txeEffect, inState, State.syncStep, State.emit]
  | sync3 inState => simp [txeEffect, inState, State.syncStep, State.emit]
  | sync4 inState => simp [txeEffect, inState, State.syncStep, State.emit]
  | nibble inState lt => simp [txeEffect, inState, State.payloadStep, lt, State.emit]
  | lastNibble inState => simp [txeEffect, inState, State.payloadStep, State.emit, State.advanceTxTail, bump]
  | join inState joins => simp [txeEffect, inState, State.eofStep, joins, State.startFrame, State.emit]
  | finish inState ends => simp [txeEffect, inState, State.eofStep, ends, State.armCompletion, State.silent]

/-- In every state one row applies. -/
theorem exists_txeRow (c : Params) (s : State) : ∃ u, TxeRow c s u := by
  cases inState : s.txState with
  | idle =>
    cases on : s.txEnabled with
    | false => exact ⟨_, .startGap inState on⟩
    | true =>
      cases pending : s.txPending with
      | true => exact ⟨_, .startFrame inState on pending⟩
      | false => exact ⟨_, .nothingToSend inState on pending⟩
  | sync2 => exact ⟨_, .sync2 inState⟩
  | sync3 => exact ⟨_, .sync3 inState⟩
  | sync4 => exact ⟨_, .sync4 inState⟩
  | pay k =>
    rcases Nat.lt_or_ge k.val 7 with lt | ge
    · exact ⟨_, .nibble inState lt⟩
    · obtain rfl : k = 7 := by omega
      exact ⟨_, .lastNibble inState⟩
  | eof =>
    cases joins : c.txJoin && s.txPending with
    | true => exact ⟨_, .join inState joins⟩
    | false => exact ⟨_, .finish inState joins⟩

theorem txeRow_txeEffect (c : Params) (s : State) : TxeRow c s (txeEffect c s) := by
  obtain ⟨u, row⟩ := exists_txeRow c s
  rwa [row.txeEffect_eq]

/-- TC's two branches (42_tx_framer.md R101). -/
theorem completeTransmission_silent_eq (s : State) : s.completeTransmission.silent =
    if s.txPending = true then { s with tcIe := false, timerArmed := true, out := ⟨none, none⟩ }
    else { s with tcIe := false, txEnabled := false, out := ⟨none, none⟩ } := by
  unfold State.completeTransmission
  split <;> rfl

/-! ## The packet queues -/

/-- PKT_SEND on an occupied slot (43_packet_queue.md R111). -/
theorem pktSendEffect_of_pending {s : State} (h : s.txPending = true) (c : Params) (f : Frame) :
    pktSendEffect c f s = { s with out := ⟨none, some (.sent false)⟩ } := by
  simp [pktSendEffect, h, State.answer]

/-- PKT_SEND on a free slot (43_packet_queue.md R111, R113). -/
theorem pktSendEffect_of_free {s : State} (h : s.txPending = false) (c : Params) (f : Frame) :
    pktSendEffect c f s =
      { s with
        txSlot := frameForSend c f, txHead := s.txHead + 1, txeIe := !s.txEnabled || s.txeIe
        out := ⟨none, some (.sent true)⟩ } := by
  cases on : s.txEnabled <;>
    simp [pktSendEffect, h, State.kickIfIdle, on, State.answer, State.advanceTxHead, State.writeTxSlot, bump]

/-- PKT_RECV on an empty slot (43_packet_queue.md R114). -/
theorem pktRecvEffect_of_empty {s : State} (h : s.rxPending = false) (c : Params) :
    pktRecvEffect c s = { s with out := ⟨none, some (.received none)⟩ } := by
  simp [pktRecvEffect, h, State.answer]

/-- PKT_RECV with a frame pending (43_packet_queue.md R114, R115). -/
theorem pktRecvEffect_of_pending {s : State} (h : s.rxPending = true) (c : Params) :
    pktRecvEffect c s =
      { s with
        rxTail := s.rxTail + 1
        out := ⟨none, some (.received (if crcCheck c s.rxSlot then some s.rxSlot else none))⟩ } := by
  cases ok : crcCheck c s.rxSlot <;>
    simp [pktRecvEffect, h, ok, State.readRxSlot, State.answer, State.advanceRxTail, bump]

/-! ## The receive framer -/

/-- The framer's next state by its own state and the byte's class (41_rx_framer.md R82 to R84). -/
def RxState.after (r : RxState) (cls : SymbolClass) : RxState :=
  match cls, r with
  | .sync, .sync1 => .nib 0
  | .sync, _ => .sync1
  | .invalid, .nib _ => .hunt
  | .invalid, r => r
  | .nibble _, .nib k => if k.val < 7 then .nib (k + 1) else .hunt
  | .nibble _, _ => .hunt

/-- `NIB(k)` is entered by a marker in `SYNC_1`, for `k = 0`, or by a nibble in `NIB(k - 1)` (41_rx_framer.md R91). -/
theorem RxState.after_eq_nib_iff {r : RxState} {cls : SymbolClass} {k : Fin 8} :
    r.after cls = .nib k ↔
      (k.val = 0 ∧ cls = .sync ∧ r = .sync1) ∨
      ∃ j : Fin 8, k.val = j.val + 1 ∧ (∃ n, cls = .nibble n) ∧ r = .nib j := by
  cases cls with
  | sync =>
    cases r with
    | hunt => simp [RxState.after]
    | sync1 => simpa [RxState.after] using eq_comm
    | nib j => simp [RxState.after]
  | invalid => cases r <;> simp [RxState.after]
  | nibble n =>
    cases r with
    | hunt => simp [RxState.after]
    | sync1 => simp [RxState.after]
    | nib j =>
      rcases Nat.lt_or_ge j.val 7 with lt | ge
      · simp [RxState.after, lt]; omega
      · simp [RxState.after, Nat.not_lt.2 ge]; omega

/-- The rows of the receive framer's table (41_rx_framer.md R91), by what they write besides the framer's state. -/
inductive RxRow (r : RxFields) (tail : Counter) : SymbolClass → RxFields → Prop
  | move {cls : SymbolClass} (other : ∀ k n, r.state = .nib k → cls ≠ .nibble n) :
      RxRow r tail cls { r with state := r.state.after cls }
  | pack {k : Fin 8} {n : Nibble} (inState : r.state = .nib k) (lt : k.val < 7) :
      RxRow r tail (.nibble n) { r with state := .nib (k + 1), buf := r.buf.setNibble k n }
  | publish {n : Nibble} (inState : r.state = .nib 7) :
      RxRow r tail (.nibble n)
        { state := .hunt, buf := r.buf.setNibble 7 n, slot := r.buf.setNibble 7 n
          head := if r.head = tail then r.head + 1 else r.head }

/-- The framer's fields become what the row says whose condition holds. -/
theorem RxRow.next_eq {r u : RxFields} {tail : Counter} {cls : SymbolClass} (row : RxRow r tail cls u) :
    r.next tail cls = u := by
  obtain ⟨state, buf, slot, head⟩ := r
  cases row with
  | move other =>
    cases cls with
    | sync => cases state <;> rfl
    | invalid => cases state <;> rfl
    | nibble n =>
      cases state with
      | hunt => rfl
      | sync1 => rfl
      | nib k => exact absurd rfl (other k n rfl)
  | pack inState lt =>
    obtain rfl : state = _ := inState
    simp [RxFields.next, RxFields.onNibble, lt, RxFields.pack]
  | publish inState =>
    obtain rfl : state = _ := inState
    simp [RxFields.next, RxFields.onNibble, RxFields.publish, RxFields.pack, bump]

/-- For every byte one row applies. -/
theorem exists_rxRow (r : RxFields) (tail : Counter) (cls : SymbolClass) : ∃ u, RxRow r tail cls u := by
  by_cases other : ∀ k n, r.state = .nib k → cls ≠ .nibble n
  · exact ⟨_, .move other⟩
  · push Not at other
    obtain ⟨k, n, inState, rfl⟩ := other
    rcases Nat.lt_or_ge k.val 7 with lt | ge
    · exact ⟨_, .pack inState lt⟩
    · obtain rfl : k = 7 := by omega
      exact ⟨_, .publish inState⟩

theorem rxRow_next (r : RxFields) (tail : Counter) (cls : SymbolClass) : RxRow r tail cls (r.next tail cls) := by
  obtain ⟨u, row⟩ := exists_rxRow r tail cls
  rwa [row.next_eq]

theorem RxRow.state_eq {r u : RxFields} {tail : Counter} {cls : SymbolClass} (row : RxRow r tail cls u) :
    u.state = r.state.after cls := by
  cases row with
  | move other => rfl
  | pack inState lt => simp [RxState.after, inState, lt]
  | publish inState => simp [RxState.after, inState]

end Sys2Proof.Machine
end

section
/-! PROOFS, part 3. Frames: which operation writes which field, and in which direction (10_state.md R19 to R31). -/

namespace Sys2Proof.Machine

open Sys2Proof.Config (Params params)

/-! ## The two halves -/

theorem TxeRow.sameReceiveHalf {c : Params} {s u : State} (row : TxeRow c s u) : SameReceiveHalf s u := by
  cases row <;> exact ⟨rfl, rfl, rfl, rfl, rfl⟩

theorem TxeRow.sameRest {c : Params} {s u : State} (row : TxeRow c s u) : SameRest s u := by
  cases row <;> exact ⟨rfl, rfl, rfl⟩

/-- Only RX_BYTE, PKT_RECV and RESET write a field of the receive half (41_rx_framer.md R90). -/
theorem effect_sameReceiveHalf {i : Instr} (hr : i ≠ .reset) (h : inReceiveHalf i = false) (s : State) :
    SameReceiveHalf s (effect i s) := by
  cases i with
  | reset => exact absurd rfl hr
  | txe => exact (txeRow_txeEffect params s).sameReceiveHalf
  | tc => constructor <;> simp [effect]
  | timer => constructor <;> simp [effect]
  | tick => constructor <;> simp [effect]
  | pktSend f =>
    cases pending : s.txPending with
    | true => rw [effect, pktSendEffect_of_pending pending]; exact ⟨rfl, rfl, rfl, rfl, rfl⟩
    | false => rw [effect, pktSendEffect_of_free pending]; exact ⟨rfl, rfl, rfl, rfl, rfl⟩
  | _ => cases h

/-- Only TXE, TC, TIMER, PKT_SEND and RESET write a field of the transmit half (41_rx_framer.md R90). -/
theorem effect_sameTransmitHalf {i : Instr} (hr : i ≠ .reset) (h : inTransmitHalf i = false) (s : State) :
    SameTransmitHalf s (effect i s) := by
  cases i with
  | reset => exact absurd rfl hr
  | rxByte b => constructor <;> simp [effect, rxByteEffect]
  | tick => constructor <;> simp [effect]
  | pktRecv =>
    cases pending : s.rxPending with
    | true => rw [effect, pktRecvEffect_of_pending pending]; exact ⟨rfl, rfl, rfl, rfl, rfl, rfl, rfl, rfl⟩
    | false => rw [effect, pktRecvEffect_of_empty pending]; exact ⟨rfl, rfl, rfl, rfl, rfl, rfl, rfl, rfl⟩
  | _ => cases h

/-- No operation but RESET writes a field of neither half. -/
theorem effect_sameRest {i : Instr} (h : i ≠ .reset) (s : State) : SameRest s (effect i s) := by
  cases i with
  | reset => exact absurd rfl h
  | rxByte b => constructor <;> simp [effect, rxByteEffect]
  | txe => exact (txeRow_txeEffect params s).sameRest
  | tc => constructor <;> simp [effect]
  | timer => constructor <;> simp [effect]
  | tick => constructor <;> simp [effect]
  | pktSend f =>
    cases pending : s.txPending with
    | true => rw [effect, pktSendEffect_of_pending pending]; exact ⟨rfl, rfl, rfl⟩
    | false => rw [effect, pktSendEffect_of_free pending]; exact ⟨rfl, rfl, rfl⟩
  | pktRecv =>
    cases pending : s.rxPending with
    | true => rw [effect, pktRecvEffect_of_pending pending]; exact ⟨rfl, rfl, rfl⟩
    | false => rw [effect, pktRecvEffect_of_empty pending]; exact ⟨rfl, rfl, rfl⟩

theorem effect_ops (i : Instr) (s : State) : (effect i s).ops = s.ops := by
  by_cases h : i = .reset
  · subst h; rfl
  · exact (effect_sameRest h s).ops

/-- Every operation that runs leaves a state in which a RESET has happened (10_state.md R29). -/
theorem effect_initialised {i : Instr} {s : State} (h : enabled i s = true) : (effect i s).initialised = true := by
  by_cases hi : i = .reset
  · subst hi; rfl
  · exact (effect_sameRest hi s).initialised.trans (initialised_of_enabled h hi)

/-! ## Slots and counters -/

/-- Only RX_BYTE writes the receive framer's fields (10_state.md R19 to R21). -/
theorem effect_rxFields {i : Instr} (hr : i ≠ .reset) (h : ∀ b, i ≠ .rxByte b) (s : State) :
    (effect i s).rxFields = s.rxFields := by
  have of_half (hi : inReceiveHalf i = false) : (effect i s).rxFields = s.rxFields := by
    obtain ⟨state, buf, slot, head, -⟩ := effect_sameReceiveHalf hr hi s
    simp only [State.rxFields, state, buf, slot, head]
  cases i with
  | reset => exact absurd rfl hr
  | rxByte b => exact absurd rfl (h b)
  | pktRecv =>
    cases pending : s.rxPending with
    | true => rw [effect, pktRecvEffect_of_pending pending]; rfl
    | false => rw [effect, pktRecvEffect_of_empty pending]; rfl
  | _ => exact of_half rfl

/-- A publish advances the head where the slot is free, and no other row moves it (41_rx_framer.md R86). -/
theorem RxRow.head_cases {r u : RxFields} {tail : Counter} {cls : SymbolClass} (row : RxRow r tail cls u) :
    u.head = r.head ∨ (r.head = tail ∧ u.head = r.head + 1) := by
  cases row with
  | move other => exact .inl rfl
  | pack inState lt => exact .inl rfl
  | publish inState =>
    by_cases free : r.head = tail
    · exact .inr ⟨free, if_pos free⟩
    · exact .inl (if_neg free)

/-- RX_BYTE moves the inbound head only where the slot is free, PKT_RECV the tail only where it is occupied, and nothing else
moves them (10_state.md R21). -/
theorem effect_rxCounters {i : Instr} (hr : i ≠ .reset) (s : State) :
    ((effect i s).rxHead = s.rxHead ∧ (effect i s).rxTail = s.rxTail) ∨
    (s.rxPending = false ∧ (effect i s).rxHead = s.rxHead + 1 ∧ (effect i s).rxTail = s.rxTail) ∨
    (i = .pktRecv ∧ s.rxPending = true ∧ (effect i s).rxHead = s.rxHead ∧ (effect i s).rxTail = s.rxTail + 1) := by
  have of_half (hi : inReceiveHalf i = false) : (effect i s).rxHead = s.rxHead ∧ (effect i s).rxTail = s.rxTail :=
    ⟨(effect_sameReceiveHalf hr hi s).rxHead, (effect_sameReceiveHalf hr hi s).rxTail⟩
  cases i with
  | reset => exact absurd rfl hr
  | rxByte b =>
    rcases (rxRow_next s.rxFields s.rxTail (decodeSymbol params b)).head_cases with head | ⟨free, head⟩
    · exact .inl ⟨head, rfl⟩
    · exact .inr (.inl ⟨bne_eq_false_iff_eq.2 free, head, rfl⟩)
  | pktRecv =>
    rcases Bool.eq_false_or_eq_true s.rxPending with pending | empty
    · rw [effect, pktRecvEffect_of_pending pending]; exact .inr (.inr ⟨rfl, pending, rfl, rfl⟩)
    · rw [effect, pktRecvEffect_of_empty empty]; exact .inl ⟨rfl, rfl⟩
  | _ => exact .inl (of_half rfl)

theorem TxeRow.txSlot_txHead {c : Params} {s u : State} (row : TxeRow c s u) : u.txSlot = s.txSlot ∧ u.txHead = s.txHead := by
  cases row <;> exact ⟨rfl, rfl⟩

theorem TxeRow.txTail_cases {c : Params} {s u : State} (row : TxeRow c s u) :
    u.txTail = s.txTail ∨ (s.txState = .pay 7 ∧ u.txTail = s.txTail + 1) := by
  cases row with
  | lastNibble inState => exact .inr ⟨inState, rfl⟩
  | _ => exact .inl rfl

/-- Only PKT_SEND writes the outbound slot and its head (10_state.md R23, R24). -/
theorem effect_txSlot_txHead {i : Instr} (hr : i ≠ .reset) (h : ∀ f, i ≠ .pktSend f) (s : State) :
    (effect i s).txSlot = s.txSlot ∧ (effect i s).txHead = s.txHead := by
  have of_half (hi : inTransmitHalf i = false) : (effect i s).txSlot = s.txSlot ∧ (effect i s).txHead = s.txHead :=
    ⟨(effect_sameTransmitHalf hr hi s).txSlot, (effect_sameTransmitHalf hr hi s).txHead⟩
  cases i with
  | reset => exact absurd rfl hr
  | txe => exact (txeRow_txeEffect params s).txSlot_txHead
  | tc => simp [effect]
  | timer => simp [effect]
  | pktSend f => exact absurd rfl (h f)
  | _ => exact of_half rfl

/-- PKT_SEND moves the outbound head only where the slot is free, the payload step 7 moves the tail, and nothing else moves
them (10_state.md R24). -/
theorem effect_txCounters {i : Instr} (hr : i ≠ .reset) (s : State) :
    ((effect i s).txHead = s.txHead ∧ (effect i s).txTail = s.txTail) ∨
    (s.txPending = false ∧ (effect i s).txHead = s.txHead + 1 ∧ (effect i s).txTail = s.txTail) ∨
    (i = .txe ∧ s.txState = .pay 7 ∧ (effect i s).txHead = s.txHead ∧ (effect i s).txTail = s.txTail + 1) := by
  have of_half (hi : inTransmitHalf i = false) : (effect i s).txHead = s.txHead ∧ (effect i s).txTail = s.txTail :=
    ⟨(effect_sameTransmitHalf hr hi s).txHead, (effect_sameTransmitHalf hr hi s).txTail⟩
  cases i with
  | reset => exact absurd rfl hr
  | txe =>
    have row := txeRow_txeEffect params s
    obtain ⟨-, head⟩ := row.txSlot_txHead
    rcases row.txTail_cases with tail | ⟨inState, tail⟩
    · exact .inl ⟨head, tail⟩
    · exact .inr (.inr ⟨rfl, inState, head, tail⟩)
  | tc => exact .inl (by simp [effect])
  | timer => exact .inl (by simp [effect])
  | pktSend f =>
    rcases Bool.eq_false_or_eq_true s.txPending with pending | free
    · rw [effect, pktSendEffect_of_pending pending]; exact .inl ⟨rfl, rfl⟩
    · rw [effect, pktSendEffect_of_free free]; exact .inr (.inl ⟨free, rfl, rfl⟩)
  | _ => exact .inl (of_half rfl)

/-! ## The serializer's state, the flags and the output -/

/-- Who changes the serializer's state and each flag, and in which direction (10_state.md R22, R25 to R28). -/
structure ControlWriters (i : Instr) (s t : State) : Prop where
  txState : t.txState ≠ s.txState → i = .txe
  txeIe : t.txeIe ≠ s.txeIe → (i = .txe ∧ t.txeIe = false) ∨ ((i = .timer ∨ ∃ f, i = .pktSend f) ∧ t.txeIe = true)
  tcIe : t.tcIe ≠ s.tcIe → (i = .txe ∧ t.tcIe = true) ∨ (i = .tc ∧ t.tcIe = false)
  txEnabled : t.txEnabled ≠ s.txEnabled → (i = .txe ∧ t.txEnabled = true) ∨ (i = .tc ∧ t.txEnabled = false)
  timerArmed : t.timerArmed ≠ s.timerArmed →
    ((i = .txe ∨ i = .tc) ∧ t.timerArmed = true) ∨ (i = .timer ∧ t.timerArmed = false)

theorem SameTransmitHalf.controlWriters {s t : State} (h : SameTransmitHalf s t) (i : Instr) : ControlWriters i s t where
  txState hne := absurd h.txState hne
  txeIe hne := absurd h.txeIe hne
  tcIe hne := absurd h.tcIe hne
  txEnabled hne := absurd h.txEnabled hne
  timerArmed hne := absurd h.timerArmed hne

/-- TXE only ever disables itself, and only enables the others. -/
theorem TxeRow.controlWriters {c : Params} {s u : State} (row : TxeRow c s u) : ControlWriters .txe s u := by
  cases row <;> constructor <;> simp

theorem effect_controlWriters {i : Instr} (hr : i ≠ .reset) (s : State) : ControlWriters i s (effect i s) := by
  cases i with
  | reset => exact absurd rfl hr
  | txe => exact (txeRow_txeEffect params s).controlWriters
  | tc =>
    rw [effect, completeTransmission_silent_eq]
    split <;> constructor <;> simp
  | timer => constructor <;> simp [effect]
  | pktSend f =>
    rcases Bool.eq_false_or_eq_true s.txPending with pending | free
    · rw [effect, pktSendEffect_of_pending pending]; constructor <;> simp
    · rw [effect, pktSendEffect_of_free free]; constructor <;> simp +contextual
  | _ => exact (effect_sameTransmitHalf hr rfl s).controlWriters _

theorem TxeRow.out_result {c : Params} {s u : State} (row : TxeRow c s u) : u.out.result = none := by
  cases row <;> rfl

/-- Only TXE emits a byte, and only the packet queue operations return a result (10_state.md R31). -/
theorem effect_out {i : Instr} (hr : i ≠ .reset) (s : State) :
    ((effect i s).out.byte ≠ none → i = .txe) ∧
    ((effect i s).out.result ≠ none → i = .pktRecv ∨ ∃ f, i = .pktSend f) := by
  cases i with
  | reset => exact absurd rfl hr
  | rxByte b => simp [effect, rxByteEffect]
  | txe => simp [effect, (txeRow_txeEffect params s).out_result]
  | tc => simp [effect]
  | timer => simp [effect]
  | tick => simp [effect]
  | pktSend f =>
    rcases Bool.eq_false_or_eq_true s.txPending with pending | free
    · rw [effect, pktSendEffect_of_pending pending]; simp
    · rw [effect, pktSendEffect_of_free free]; simp
  | pktRecv =>
    rcases Bool.eq_false_or_eq_true s.rxPending with pending | empty
    · rw [effect, pktRecvEffect_of_pending pending]; simp
    · rw [effect, pktRecvEffect_of_empty empty]; simp

/-- Settles O56, by the frame of each field. -/
theorem eachFieldHasItsWriters : Obligations.EachFieldHasItsWriters := by
  intro i s t h
  obtain ⟨en, rfl⟩ := exec_eq_next.1 h
  refine ⟨effect_ops i s, effect_initialised en, fun hr => ?_⟩
  obtain ⟨initialised, -, draws⟩ := effect_sameRest hr s
  obtain ⟨txState, txeIe, tcIe, txEnabled, timerArmed⟩ := effect_controlWriters hr s
  obtain ⟨byte, result⟩ := effect_out hr s
  refine ⟨draws, initialised, fun hi => ?_, ?_, ?_, fun hi => effect_txSlot_txHead hr hi s, ?_, ?_,
    txState, txeIe, tcIe, txEnabled, timerArmed, byte, result⟩
  · simpa [State.rxFields] using effect_rxFields hr hi s
  · rcases effect_rxCounters hr s with ⟨head, -⟩ | ⟨-, head, -⟩ | ⟨-, -, head, -⟩ <;> simp [head]
  · rcases effect_rxCounters hr s with ⟨-, tail⟩ | ⟨-, -, tail⟩ | ⟨hi, pending, -, tail⟩
    · exact fun hne => absurd tail hne
    · exact fun hne => absurd tail hne
    · exact fun _ => ⟨hi, pending, tail⟩
  · rcases effect_txCounters hr s with ⟨head, -⟩ | ⟨-, head, -⟩ | ⟨-, -, head, -⟩ <;> simp [head]
  · rcases effect_txCounters hr s with ⟨-, tail⟩ | ⟨-, -, tail⟩ | ⟨hi, inState, -, tail⟩
    · exact fun hne => absurd tail hne
    · exact fun hne => absurd tail hne
    · exact fun _ => ⟨hi, inState, tail⟩

end Sys2Proof.Machine
end

section
/-! PROOFS, part 4. The invariants of 10_state.md R33 and R34: RESET establishes them, every operation keeps them. -/

namespace Sys2Proof.Machine

open Sys2Proof.Config (Params params)

/-! ## The counter invariant -/

/-- A slot's counters differ by 0 or 1, modulo 256 (10_state.md R33). -/
def AtMostOnePending (head tail : Counter) : Prop := head - tail = 0#8 ∨ head - tail = 1#8

theorem AtMostOnePending.eq_add_one {head tail : Counter} (h : AtMostOnePending head tail) (pending : head ≠ tail) :
    head = tail + 1 := by
  rcases h with h | h
  · exact absurd (sub_eq_zero.1 h) pending
  · rw [← sub_add_cancel head tail, h]; exact add_comm _ _

theorem atMostOnePending_of_eq {head tail : Counter} (h : head = tail) : AtMostOnePending head tail :=
  .inl (sub_eq_zero.2 h)

theorem atMostOnePending_of_eq_add_one {head tail : Counter} (h : head = tail + 1) : AtMostOnePending head tail :=
  .inr (by rw [h]; exact add_sub_cancel_left tail 1)

/-- Filling a free slot. -/
theorem atMostOnePending_fill {head tail : Counter} (free : head = tail) : AtMostOnePending (head + 1) tail :=
  atMostOnePending_of_eq_add_one (congrArg (· + 1) free)

/-- Freeing an occupied slot. -/
theorem AtMostOnePending.free {head tail : Counter} (h : AtMostOnePending head tail) (pending : head ≠ tail) :
    AtMostOnePending head (tail + 1) :=
  atMostOnePending_of_eq (h.eq_add_one pending)

/-- In a sync or payload state the frame being sent is in the slot (10_state.md R34(d)). -/
theorem TxControlInv.pending_of_pay {s : State} (h : TxControlInv s) {k : Fin 8} (inState : s.txState = .pay k) :
    s.txPending = true :=
  h.frameInSlot (by simp [inState]) (by simp [inState])

theorem counterInv_iff {s : State} :
    CounterInv s ↔ AtMostOnePending s.rxHead s.rxTail ∧ AtMostOnePending s.txHead s.txTail :=
  ⟨fun h => ⟨h.rx, h.tx⟩, fun h => ⟨h.1, h.2⟩⟩

theorem counterInv_afterReset (s : State) : CounterInv s.afterReset :=
  counterInv_iff.2 ⟨atMostOnePending_of_eq rfl, atMostOnePending_of_eq rfl⟩

theorem effect_keeps_counterInv (i : Instr) {s : State} (h : CounterInv s) (control : TxControlInv s) :
    CounterInv (effect i s) := by
  by_cases hr : i = .reset
  · subst hr; exact counterInv_afterReset s
  obtain ⟨rx, tx⟩ := counterInv_iff.1 h
  refine counterInv_iff.2 ⟨?_, ?_⟩
  · rcases effect_rxCounters hr s with ⟨head, tail⟩ | ⟨free, head, tail⟩ | ⟨-, pending, head, tail⟩ <;>
      rw [head, tail]
    · exact rx
    · exact atMostOnePending_fill (bne_eq_false_iff_eq.1 free)
    · exact rx.free (s.rxPending_iff.1 pending)
  · rcases effect_txCounters hr s with ⟨head, tail⟩ | ⟨free, head, tail⟩ | ⟨-, inState, head, tail⟩ <;>
      rw [head, tail]
    · exact tx
    · exact atMostOnePending_fill (bne_eq_false_iff_eq.1 free)
    · exact tx.free (s.txPending_iff.1 (control.pending_of_pay inState))

/-! ## The transmit control invariant -/

/-- A driven serializer, with the transmitter on and TC and the timer off, may be in any state for which the slot holds a
frame, and in `EOF`. -/
theorem txControlInv_of_driven {s : State} (driven : s.txeIe = true) (tc : s.tcIe = false) (timer : s.timerArmed = false)
    (on : s.txEnabled = true) (frame : s.txState ≠ .eof → s.txPending = true) : TxControlInv s where
  exclusive := by simp [tc, timer]
  onWhileWaiting _ := on
  drivenUnlessIdle _ := ⟨driven, on⟩
  frameInSlot _ := frame
  offIsIdle off := by simp [on] at off

/-- Of an idle serializer only the flags matter. -/
theorem txControlInv_of_idle {s : State} (idle : s.txState = .idle)
    (exclusive : ¬(s.txeIe = true ∧ s.tcIe = true) ∧ ¬(s.txeIe = true ∧ s.timerArmed = true) ∧
      ¬(s.tcIe = true ∧ s.timerArmed = true))
    (onWhileWaiting : s.tcIe = true ∨ s.timerArmed = true → s.txEnabled = true) : TxControlInv s where
  exclusive := exclusive
  onWhileWaiting := onWhileWaiting
  drivenUnlessIdle hne := absurd idle hne
  frameInSlot hne := absurd idle hne
  offIsIdle off := by simpa [off, idle] using onWhileWaiting

theorem txControlInv_afterReset (s : State) : TxControlInv s.afterReset :=
  txControlInv_of_idle rfl (by simp) (by simp)

/-- The invariant speaks of the transmit half only. -/
theorem TxControlInv.of_same {s t : State} (h : TxControlInv s) (same : SameTransmitHalf s t) : TxControlInv t := by
  obtain ⟨txState, -, txHead, txTail, txeIe, tcIe, txEnabled, timerArmed⟩ := same
  obtain ⟨exclusive, onWhileWaiting, drivenUnlessIdle, frameInSlot, offIsIdle⟩ := h
  constructor <;> simpa only [State.txPending, txState, txHead, txTail, txeIe, tcIe, txEnabled, timerArmed]

/-- While TXE is enabled, neither TC nor the timer is. -/
theorem TxControlInv.waiting_off {s : State} (h : TxControlInv s) (driven : s.txeIe = true) :
    s.tcIe = false ∧ s.timerArmed = false := by
  obtain ⟨tc, timer, -⟩ := h.exclusive
  simpa [driven] using And.intro tc timer

/-- While TC or the timer is enabled, the serializer is idle. -/
theorem TxControlInv.idle_of_waiting {s : State} (h : TxControlInv s) (waiting : s.tcIe = true ∨ s.timerArmed = true) :
    s.txState = .idle := by
  by_contra hne
  obtain ⟨tc, timer⟩ := h.waiting_off (h.drivenUnlessIdle hne).1
  simp [tc, timer] at waiting

theorem TxeRow.keeps_txControlInv {c : Params} {s u : State} (row : TxeRow c s u) (h : TxControlInv s)
    (driven : s.txeIe = true) : TxControlInv u := by
  obtain ⟨tc, timer⟩ := h.waiting_off driven
  have on (hne : s.txState ≠ .idle) : s.txEnabled = true := (h.drivenUnlessIdle hne).2
  have moves {next : TxState} {out : Out} (notIdle : s.txState ≠ .idle) (notEof : s.txState ≠ .eof) :
      TxControlInv { s with txState := next, out := out } :=
    txControlInv_of_driven driven tc timer (on notIdle) fun _ => h.frameInSlot notIdle notEof
  cases row with
  | startGap idle off => exact txControlInv_of_idle idle (by simp [tc]) (by simp)
  | startFrame idle on pending => exact txControlInv_of_driven driven tc timer on fun _ => pending
  | nothingToSend idle on free => exact txControlInv_of_idle idle (by simp [timer]) fun _ => on
  | sync2 inState => exact moves (by simp [inState]) (by simp [inState])
  | sync3 inState => exact moves (by simp [inState]) (by simp [inState])
  | sync4 inState => exact moves (by simp [inState]) (by simp [inState])
  | nibble inState lt => exact moves (by simp [inState]) (by simp [inState])
  | lastNibble inState => exact txControlInv_of_driven driven tc timer (on (by simp [inState])) fun hne => absurd rfl hne
  | join inState joins =>
    obtain ⟨-, pending⟩ := Bool.and_eq_true_iff.1 joins
    exact txControlInv_of_driven driven tc timer (on (by simp [inState])) fun _ => pending
  | finish inState ends => exact txControlInv_of_idle rfl (by simp [timer]) fun _ => on (by simp [inState])

theorem effect_keeps_txControlInv {i : Instr} {s : State} (en : enabled i s = true) (h : TxControlInv s) :
    TxControlInv (effect i s) := by
  cases i with
  | reset => exact txControlInv_afterReset s
  | txe =>
    obtain ⟨-, driven⟩ : s.initialised = true ∧ s.txeIe = true := by simpa using en
    exact (txeRow_txeEffect params s).keeps_txControlInv h driven
  | tc =>
    obtain ⟨-, tc⟩ : s.initialised = true ∧ s.tcIe = true := by simpa using en
    have idle := h.idle_of_waiting (.inl tc)
    have on := h.onWhileWaiting (.inl tc)
    obtain ⟨txeTc, -, tcTimer⟩ := h.exclusive
    have txe : s.txeIe = false := Bool.eq_false_iff.2 fun txe => txeTc ⟨txe, tc⟩
    have timer : s.timerArmed = false := Bool.eq_false_iff.2 fun timer => tcTimer ⟨tc, timer⟩
    exact txControlInv_of_idle (by simpa [effect] using idle) (by simp [effect, txe]) (by simp [effect, on, timer])
  | timer =>
    obtain ⟨-, timer⟩ : s.initialised = true ∧ s.timerArmed = true := by simpa using en
    have idle := h.idle_of_waiting (.inr timer)
    have on := h.onWhileWaiting (.inr timer)
    obtain ⟨-, -, tcTimer⟩ := h.exclusive
    have tc : s.tcIe = false := Bool.eq_false_iff.2 fun tc => tcTimer ⟨tc, timer⟩
    exact txControlInv_of_idle (by simpa [effect] using idle) (by simp [effect, tc]) (by simp [effect, on])
  | pktSend f =>
    rcases Bool.eq_false_or_eq_true s.txPending with pending | free
    · rw [effect, pktSendEffect_of_pending pending]
      exact h.of_same ⟨rfl, rfl, rfl, rfl, rfl, rfl, rfl, rfl⟩
    · rw [effect, pktSendEffect_of_free free]
      exact
        { exclusive := by
            cases on : s.txEnabled with
            | false => obtain ⟨-, tc, timer⟩ := h.offIsIdle on; simp [tc, timer]
            | true => simpa [on] using h.exclusive
          onWhileWaiting := h.onWhileWaiting
          drivenUnlessIdle := fun notIdle => by simp [h.drivenUnlessIdle notIdle]
          frameInSlot := fun notIdle notEof => absurd (h.frameInSlot notIdle notEof) (by simp [free])
          offIsIdle := h.offIsIdle }
  | _ => exact h.of_same (effect_sameTransmitHalf (by simp) rfl s)

/-! ## Steps and runs -/

/-- Settles O42: what every operation keeps, a step keeps, since the words that wait are no part of it. -/
theorem stepKeepsCounterInvariant : Obligations.StepKeepsCounterInvariant := by
  intro s t counters control h
  obtain ⟨w, rest, i, -, -, hx⟩ := step_eq_next h
  obtain ⟨-, rfl⟩ := exec_eq_next.1 hx
  exact effect_keeps_counterInv i ⟨counters.rx, counters.tx⟩
    (control.of_same ⟨rfl, rfl, rfl, rfl, rfl, rfl, rfl, rfl⟩)

/-- Settles O43, operation by operation. -/
theorem stepKeepsTransmitControl : Obligations.StepKeepsTransmitControl := by
  intro s t control h
  obtain ⟨w, rest, i, -, -, hx⟩ := step_eq_next h
  obtain ⟨en, rfl⟩ := exec_eq_next.1 hx
  exact effect_keeps_txControlInv en (control.of_same ⟨rfl, rfl, rfl, rfl, rfl, rfl, rfl, rfl⟩)

/-- Every state that a run from RESET reaches meets R33 and R34, whatever the state before it. -/
theorem invariants_of_run_reset {is : List Instr} {s t : State} {outs : List Out}
    (h : run (.reset :: is) s = some (outs, t)) : CounterInv t ∧ TxControlInv t := by
  refine run_reset_reaches (P := fun s => CounterInv s ∧ TxControlInv s)
    (fun s => ⟨counterInv_afterReset s, txControlInv_afterReset s⟩) ?_ h
  rintro i s t ⟨counters, control⟩ hx
  obtain ⟨en, rfl⟩ := exec_eq_next.1 hx
  exact ⟨effect_keeps_counterInv i counters control, effect_keeps_txControlInv en control⟩

/-- Settles O45, by induction on the operations after RESET. -/
theorem everyStateReachedFromReset : Obligations.EveryStateReachedFromReset := by
  intro is s t outs h
  obtain ⟨⟨rx, tx⟩, ⟨⟨txeTc, txeTimer, tcTimer⟩, onWhileWaiting, drivenUnlessIdle, frameInSlot, offIsIdle⟩⟩ :=
    invariants_of_run_reset h
  exact ⟨rx, tx, txeTc, txeTimer, tcTimer, onWhileWaiting, drivenUnlessIdle, frameInSlot, offIsIdle⟩

end Sys2Proof.Machine
end

section
/-! PROOFS, part 5. RESET and `initialised` (10_state.md R29, R36). -/

namespace Sys2Proof.Machine

/-- Settles O16: the values are those `State.afterReset` writes. -/
theorem resetGivesResetValues : Obligations.ResetGivesResetValues := by
  intro s
  refine ⟨s.afterReset, exec_reset s, ?_⟩
  simp [State.lineLevel, State.uartSetup, Config.Params.uartSetup]

/-- RESET depends on nothing but the words that wait and the count of free draws. -/
theorem afterReset_eq_reset {s : State} (draws : s.draws = 0) (ops : s.ops = []) : s.afterReset = State.reset := by
  rw [State.afterReset, draws, ops]; rfl

/-- Settles O18. -/
theorem resetStateIsWhatResetLeaves : Obligations.ResetStateIsWhatResetLeaves := by
  have key (s : State) (draws : s.draws = 0) (ops : s.ops = []) : exec .reset s = .next State.reset := by
    rw [exec_reset, afterReset_eq_reset draws ops]
  exact ⟨key, fun rest => key (State.beforeReset rest) rfl rfl⟩

/-- Settles O41: right after reset the serializer is idle and off, and nothing is pending. -/
theorem invariantsHoldAtReset : Obligations.InvariantsHoldAtReset := by
  have h : (State.beforeReset State.reset).afterReset = State.reset := afterReset_eq_reset rfl rfl
  rw [Obligations.InvariantsHoldAtReset, ← h]
  refine ⟨counterInv_afterReset _, txControlInv_afterReset _, ?_⟩
  constructor <;> simp [State.txPending]

/-- Settles O59: a run starts with RESET, and no operation that runs leaves `initialised` at 0. -/
theorem initialisedIsZeroUntilReset : Obligations.InitialisedIsZeroUntilReset := by
  refine ⟨State.beforeReset_initialised, fun is rest t outs h => ?_, fun i s => exec_of_not_initialised⟩
  unfold runFromStart at h
  split at h
  · refine run_reset_reaches (P := fun s => s.initialised = true) State.afterReset_initialised ?_ h
    rintro i s t - hx
    obtain ⟨en, rfl⟩ := exec_eq_next.1 hx
    exact effect_initialised en
  · cases h

end Sys2Proof.Machine
end

section
/-! PROOFS, part 6. The fields that RESET leaves at any value cannot be observed (10_state.md R37). -/

namespace Sys2Proof.Machine

open Sys2Proof.Config (Params params)

variable {s t : State}

/-! ## What the two states have in common -/

theorem SameButUnobservable.rxPending_eq (h : SameButUnobservable s t) : t.rxPending = s.rxPending := by
  simp only [State.rxPending, h.rxHead, h.rxTail]

theorem SameButUnobservable.txPending_eq (h : SameButUnobservable s t) : t.txPending = s.txPending := by
  simp only [State.txPending, h.txHead, h.txTail]

theorem SameButUnobservable.enabled_eq (h : SameButUnobservable s t) (i : Instr) : enabled i t = enabled i s := by
  cases i <;> simp [h.initialised, h.txeIe, h.tcIe, h.timerArmed]

/-! ## Operation by operation -/

theorem SameButUnobservable.reset (h : SameButUnobservable s t) :
    SameButUnobservable s.afterReset t.afterReset := by
  constructor <;> simp [h.ops, State.rxPending, State.txPending]

/-- A row of the transmit table reads the outbound slot only in a payload state, in which its frame is pending. -/
theorem TxeRow.sameButUnobservable {c : Params} {u : State} (row : TxeRow c s u) (h : SameButUnobservable s t)
    (control : TxControlInv s) : SameButUnobservable u (txeEffect c t) := by
  have state {x : TxState} (inState : s.txState = x) : t.txState = x := h.txState.trans inState
  have slot {k : Fin 8} (inState : s.txState = .pay k) : t.txSlot = s.txSlot := h.txSlot (control.pending_of_pay inState)
  cases row with
  | startGap idle off =>
    rw [(TxeRow.startGap (state idle) (h.txEnabled.trans off)).txeEffect_eq]
    exact { h with txeIe := rfl, txEnabled := rfl, timerArmed := rfl, out := rfl }
  | startFrame idle on pending =>
    rw [(TxeRow.startFrame (state idle) (h.txEnabled.trans on) (h.txPending_eq.trans pending)).txeEffect_eq]
    exact { h with txState := rfl, out := rfl }
  | nothingToSend idle on free =>
    rw [(TxeRow.nothingToSend (state idle) (h.txEnabled.trans on) (h.txPending_eq.trans free)).txeEffect_eq]
    exact { h with txeIe := rfl, tcIe := rfl, out := rfl }
  | sync2 inState =>
    rw [(TxeRow.sync2 (state inState)).txeEffect_eq]
    exact { h with txState := rfl, out := rfl }
  | sync3 inState =>
    rw [(TxeRow.sync3 (state inState)).txeEffect_eq]
    exact { h with txState := rfl, out := rfl }
  | sync4 inState =>
    rw [(TxeRow.sync4 (state inState)).txeEffect_eq]
    exact { h with txState := rfl, out := rfl }
  | nibble inState lt =>
    rw [(TxeRow.nibble (state inState) lt).txeEffect_eq, slot inState]
    exact { h with txState := rfl, txSlot := fun _ => rfl, out := rfl }
  | lastNibble inState =>
    rw [(TxeRow.lastNibble (state inState)).txeEffect_eq, slot inState, h.txTail]
    exact { h with txState := rfl, txSlot := fun _ => rfl, txTail := rfl, out := rfl }
  | join inState joins =>
    rw [(TxeRow.join (state inState) (by rw [h.txPending_eq, joins])).txeEffect_eq]
    exact { h with txState := rfl, out := rfl }
  | finish inState ends =>
    rw [(TxeRow.finish (state inState) (by rw [h.txPending_eq, ends])).txeEffect_eq]
    exact { h with txState := rfl, txeIe := rfl, tcIe := rfl, out := rfl }

theorem SameButUnobservable.tc (h : SameButUnobservable s t) :
    SameButUnobservable s.completeTransmission.silent t.completeTransmission.silent := by
  rw [completeTransmission_silent_eq, completeTransmission_silent_eq, h.txPending_eq]
  split
  · exact { h with tcIe := rfl, timerArmed := rfl, out := rfl }
  · exact { h with tcIe := rfl, txEnabled := rfl, out := rfl }

/-- PKT_SEND overwrites a slot with no frame pending, and leaves one with a frame. -/
theorem SameButUnobservable.pktSend (h : SameButUnobservable s t) (c : Params) (f : Frame) :
    SameButUnobservable (pktSendEffect c f s) (pktSendEffect c f t) := by
  rcases Bool.eq_false_or_eq_true s.txPending with pending | free
  · rw [pktSendEffect_of_pending pending, pktSendEffect_of_pending (h.txPending_eq.trans pending)]
    exact { h with out := rfl }
  · rw [pktSendEffect_of_free free, pktSendEffect_of_free (h.txPending_eq.trans free)]
    exact
      { h with
        txSlot := fun _ => rfl, txHead := by simp [h.txHead], txeIe := by simp [h.txEnabled, h.txeIe], out := rfl }

/-- PKT_RECV reads the inbound slot only while a frame is pending. -/
theorem SameButUnobservable.pktRecv (h : SameButUnobservable s t) (c : Params) :
    SameButUnobservable (pktRecvEffect c s) (pktRecvEffect c t) := by
  rcases Bool.eq_false_or_eq_true s.rxPending with pending | empty
  · rw [pktRecvEffect_of_pending pending, pktRecvEffect_of_pending (h.rxPending_eq.trans pending), h.rxTail,
      h.rxSlot pending]
    exact { h with rxTail := rfl, rxSlot := fun _ => rfl, out := rfl }
  · rw [pktRecvEffect_of_empty empty, pktRecvEffect_of_empty (h.rxPending_eq.trans empty)]
    exact { h with out := rfl }

/-- Where a row changes the framer's state alone, no assembly is in progress after it that has brought a nibble. -/
theorem RxState.after_nib_of_move {r : RxState} {cls : SymbolClass} (other : ∀ k n, r = .nib k → cls ≠ .nibble n)
    {k : Fin 8} (h : r.after cls = .nib k) : k = 0 := by
  rcases RxState.after_eq_nib_iff.1 h with ⟨hk, -, -⟩ | ⟨j, -, ⟨n, rfl⟩, rfl⟩
  · exact Fin.ext hk
  · exact absurd rfl (other j n rfl)

/-- Frames that agree below nibble `k` agree up to it after the same nibble was written there. -/
theorem nibble_setNibble_congr {f g : Frame} {k : Fin 8} (h : ∀ j < k, f.nibble j = g.nibble j) (n : Nibble)
    {j : Fin 8} (hj : j ≤ k) : (f.setNibble k n).nibble j = (g.setNibble k n).nibble j := by
  rw [Frame.nibble_setNibble, Frame.nibble_setNibble]
  split
  · rfl
  · next hne => exact h j (lt_of_le_of_ne hj hne)

/-- RX_BYTE replaces one nibble of the assembly buffer, the same in both states; nibble 7 is the last that was to come, so
what is published is the same too. -/
theorem RxRow.sameButUnobservable {c : Params} {b : Byte} {u : RxFields}
    (row : RxRow s.rxFields s.rxTail (decodeSymbol c b) u) (h : SameButUnobservable s t) :
    SameButUnobservable (s.withRxFields u).silent (rxByteEffect c b t) := by
  have state : t.rxFields.state = s.rxFields.state := h.rxState
  rw [rxByteEffect]
  generalize decodeSymbol c b = cls at row ⊢
  cases row with
  | move other =>
    rw [(RxRow.move (state ▸ other)).next_eq, state]
    refine { h with rxState := rfl, rxBuf := fun k hk j hj => ?_, out := rfl }
    obtain rfl := RxState.after_nib_of_move other hk
    exact absurd hj (Fin.not_lt_zero j)
  | @pack k n inState lt =>
    rw [(RxRow.pack (state.trans inState) lt).next_eq]
    refine { h with rxState := rfl, rxBuf := fun k' hk' j hj => ?_, out := rfl }
    obtain rfl : k + 1 = k' := RxState.nib.inj hk'
    exact nibble_setNibble_congr (h.rxBuf k inState) n (by omega)
  | @publish n inState =>
    have frame : t.rxBuf.setNibble 7 n = s.rxBuf.setNibble 7 n :=
      Frame.eq_of_nibbles fun j => nibble_setNibble_congr (h.rxBuf 7 inState) n (Fin.le_last j)
    rw [(RxRow.publish (state.trans inState)).next_eq]
    exact
      { h with
        rxState := rfl
        rxBuf := fun k hk => RxState.noConfusion hk
        rxSlot := fun _ => frame
        rxHead := by
          change (if t.rxHead = t.rxTail then t.rxHead + 1 else t.rxHead) =
            if s.rxHead = s.rxTail then s.rxHead + 1 else s.rxHead
          rw [h.rxHead, h.rxTail]
        out := rfl }

/-- Settles O57, operation by operation. -/
theorem anyValueFieldsAreUnobservable : Obligations.AnyValueFieldsAreUnobservable := by
  intro i s t s' control h hx
  obtain ⟨en, rfl⟩ := exec_eq_next.1 hx
  refine ⟨effect i t, exec_of_enabled ((h.enabled_eq i).trans en), ?_⟩
  cases i with
  | reset => exact h.reset
  | rxByte b => exact (rxRow_next s.rxFields s.rxTail (decodeSymbol params b)).sameButUnobservable h
  | txe => exact (txeRow_txeEffect params s).sameButUnobservable h control
  | tc => exact h.tc
  | timer => exact { h with txeIe := rfl, timerArmed := rfl, out := rfl }
  | tick => exact { h with out := rfl }
  | pktSend f => exact h.pktSend params f
  | pktRecv => exact h.pktRecv params

end Sys2Proof.Machine
end

section
/-! PROOFS, part 7. The receive framer's state as a function of the bytes received (10_state.md R35). -/

namespace Sys2Proof.Machine

open Sys2Proof.Config (Params params params_legal)

/-- A byte is classed as a nibble exactly when it is that nibble's symbol (30_encoding.md R57). -/
theorem decodeSymbol_eq_nibble {c : Params} (legal : c.legal = true) {b : Byte} {n : Nibble} :
    decodeSymbol c b = .nibble n ↔ c.codebook n = b := by
  constructor
  · intro h
    unfold decodeSymbol at h
    split at h
    · cases h
    · split at h
      · next m hm =>
        obtain rfl := SymbolClass.nibble.inj h
        exact codebook_of_decodeTable hm
      · cases h
  · rintro rfl
    unfold decodeSymbol
    rw [Params.codebook_not_sync legal]
    cases hm : decodeTable c (c.codebook n) with
    | none => exact absurd rfl (decodeTable_eq_none.1 hm n)
    | some m => simp [Params.codebook_injective legal (codebook_of_decodeTable hm)]

/-- The framer's state after bytes were received. -/
def RxState.afterBytes (c : Params) (r : RxState) (bs : List Byte) : RxState :=
  bs.foldl (fun r b => r.after (decodeSymbol c b)) r

@[simp] theorem RxState.afterBytes_concat (c : Params) (r : RxState) (bs : List Byte) (b : Byte) :
    r.afterBytes c (bs ++ [b]) = (r.afterBytes c bs).after (decodeSymbol c b) := by
  simp [RxState.afterBytes]

theorem rxByteEffect_rxState (c : Params) (b : Byte) (s : State) :
    (rxByteEffect c b s).rxState = s.rxState.after (decodeSymbol c b) :=
  (rxRow_next s.rxFields s.rxTail (decodeSymbol c b)).state_eq

/-- Bytes are always received, and the framer's state follows them. -/
theorem run_rxBytes (bs : List Byte) {s : State} (init : s.initialised = true) :
    ∃ outs t, run (bs.map .rxByte) s = some (outs, t) ∧ t.rxState = s.rxState.afterBytes params bs := by
  induction bs generalizing s with
  | nil => exact ⟨[], s, rfl, rfl⟩
  | cons b bs ih =>
    have en : enabled (.rxByte b) s = true := by simpa using init
    obtain ⟨outs, t, hr, state⟩ := ih (effect_initialised en)
    refine ⟨_, t, run_cons_eq_some.2 ⟨_, outs, exec_of_enabled en, hr, rfl⟩, state.trans ?_⟩
    rw [effect, rxByteEffect_rxState]
    rfl

/-- Which state the framer is in after bytes, said of the run. -/
theorem run_rxBytes_state_iff (bs : List Byte) {s : State} (init : s.initialised = true) (r : RxState) :
    (∃ outs t, run (bs.map .rxByte) s = some (outs, t) ∧ t.rxState = r) ↔ s.rxState.afterBytes params bs = r := by
  obtain ⟨outs, t, hr, state⟩ := run_rxBytes bs init
  constructor
  · rintro ⟨outs', t', hr', rfl⟩
    obtain ⟨-, rfl⟩ : outs = outs' ∧ t = t' := by simpa [hr] using hr'
    exact state.symm
  · intro h
    exact ⟨outs, t, hr, state.trans h⟩

/-- The history that `NIB(k)` stands for (10_state.md R35): a marker received in `SYNC_1`, then `k` data symbols. -/
def AlignedFor (c : Params) (r : RxState) (bs : List Byte) (k : Nat) : Prop :=
  ∃ (before : List Byte) (m : Byte) (last : List Byte),
    bs = before ++ m :: last ∧ last.length = k ∧ (∀ b ∈ last, ∃ n, c.codebook n = b) ∧ c.syncRxSet m = true ∧
    r.afterBytes c before = .sync1

/-- The last byte is the marker itself, or one more data symbol after such a history. -/
theorem alignedFor_concat_iff {c : Params} {r : RxState} {bs : List Byte} {b : Byte} {k : Nat} :
    AlignedFor c r (bs ++ [b]) k ↔
      (k = 0 ∧ c.syncRxSet b = true ∧ r.afterBytes c bs = .sync1) ∨
      ∃ j, k = j + 1 ∧ (∃ n, c.codebook n = b) ∧ AlignedFor c r bs j := by
  constructor
  · rintro ⟨before, m, last, split, rfl, data, marker, aligned⟩
    rcases List.eq_nil_or_concat' last with rfl | ⟨last, b', rfl⟩
    · obtain ⟨rfl, ⟨⟩⟩ := List.append_inj' split rfl
      exact .inl ⟨rfl, marker, aligned⟩
    · rw [← List.cons_append, ← List.append_assoc] at split
      obtain ⟨rfl, ⟨⟩⟩ := List.append_inj' split rfl
      exact .inr ⟨last.length, by simp, data b (by simp),
        before, m, last, rfl, rfl, fun b' hb => data b' (by simp [hb]), marker, aligned⟩
  · rintro (⟨rfl, marker, aligned⟩ | ⟨j, rfl, symbol, before, m, last, rfl, rfl, data, marker, aligned⟩)
    · exact ⟨bs, b, [], rfl, rfl, by simp, marker, aligned⟩
    · refine ⟨before, m, last ++ [b], by simp, by simp, fun b' hb => ?_, marker, aligned⟩
      rcases List.mem_append.1 hb with hb | hb
      · exact data b' hb
      · exact List.mem_singleton.1 hb ▸ symbol

/-- By induction on the bytes, last byte first: `RxState.after_eq_nib_iff` and `alignedFor_concat_iff` have the same cases. -/
theorem afterBytes_eq_nib_iff {c : Params} (legal : c.legal = true) (bs : List Byte) (k : Fin 8) :
    RxState.hunt.afterBytes c bs = .nib k ↔ AlignedFor c .hunt bs k.val := by
  induction bs using List.reverseRecOn generalizing k with
  | nil => simp [RxState.afterBytes, AlignedFor]
  | append_singleton bs b ih =>
    rw [RxState.afterBytes_concat, RxState.after_eq_nib_iff, alignedFor_concat_iff, decodeSymbol_eq_sync]
    simp only [decodeSymbol_eq_nibble legal, ih]
    exact or_congr_right ⟨fun ⟨j, hk, h⟩ => ⟨j.val, hk, h⟩, fun ⟨j, hk, h⟩ => ⟨⟨j, by omega⟩, hk, h⟩⟩

/-- Settles O24: the run is the fold `RxState.afterBytes`, of which `afterBytes_eq_nib_iff` says it. -/
theorem nibbleCountMatchesHistory : Obligations.NibbleCountMatchesHistory := by
  intro bs s init hunt
  obtain ⟨outs, t, hr, state⟩ := run_rxBytes bs init
  refine ⟨outs, t, hr, fun k => ?_⟩
  rw [state, hunt, afterBytes_eq_nib_iff params_legal]
  simp only [AlignedFor, run_rxBytes_state_iff _ init, hunt]

end Sys2Proof.Machine
end

section
/-! PROOFS, part 8. Operation words: the rows of the decoder (30_encoding.md R59 to R65, R70), and encode as its inverse. -/

namespace Sys2Proof

/-! ## The fields of a word and of its operand -/

@[simp] theorem opField_encode (i : Instr) : opField (encode i) = opCode i := opField_append _ _

@[simp] theorem operandField_encode (i : Instr) : operandField (encode i) = operandOf i := operandField_append _ _

/-- A word is the word of an operation exactly when it has its op code and its operand. -/
theorem encode_eq_iff {i : Instr} {w : OpWord} : encode i = w ↔ opField w = opCode i ∧ operandField w = operandOf i := by
  constructor
  · rintro rfl; simp
  · rintro ⟨op, operand⟩
    rw [opWord_eq_append w, op, operand, encode]

/-- A field of the operand is a field of the word, four bits higher. -/
theorem extractLsb'_operandField (w : OpWord) {start len : Nat} (fits : start + len ≤ 32) :
    (operandField w).extractLsb' start len = w.extractLsb' (4 + start) len := by
  apply BitVec.eq_of_getLsbD_eq; intro i hi
  simp [operandField, hi, show start + i < 32 by omega, Nat.add_assoc]

theorem dataField_eq (w : OpWord) : dataField w = (operandField w).extractLsb' 0 8 := by
  rw [extractLsb'_operandField w (by omega), dataField]

theorem rxByteMbz_eq (w : OpWord) : rxByteMbz w = (operandField w).extractLsb' 8 24 := by
  rw [extractLsb'_operandField w (by omega), rxByteMbz]

theorem frameField_eq (w : OpWord) : frameField w = Frame.ofBits (operandField w) := by
  simp [Frame.ofBits, extractLsb'_operandField, frameField]

/-- RX_BYTE's operand: the must-be-zero bits above the data byte (30_encoding.md R61). -/
theorem operandField_eq_append (w : OpWord) : operandField w = rxByteMbz w ++ dataField w := by
  have join : (operandField w).extractLsb' 8 24 ++ (operandField w).extractLsb' 0 8 = operandField w :=
    BitVec.extractLsb'_append_extractLsb'
  rw [rxByteMbz_eq, dataField_eq, join]

@[simp] theorem dataField_encode_rxByte (data : Byte) : dataField (encode (.rxByte data)) = data := by
  rw [dataField_eq, operandField_encode]
  exact BitVec.extractLsb'_append_eq_right

@[simp] theorem rxByteMbz_encode_rxByte (data : Byte) : rxByteMbz (encode (.rxByte data)) = 0#24 := by
  rw [rxByteMbz_eq, operandField_encode]
  exact BitVec.extractLsb'_append_eq_left

/-- Bits above the lowest byte are bits of what stands above it. -/
theorem extractLsb'_append_byte {n : Nat} (x : BitVec n) (b : Byte) (start len : Nat) :
    (x ++ b).extractLsb' (start + 8) len = x.extractLsb' start len :=
  BitVec.extractLsb'_append_eq_of_le (by omega)

/-- The packed frame holds its bytes (30_encoding.md R62). -/
theorem ofBits_frameOperand (f : Frame) : Frame.ofBits (frameOperand f) = f := by
  have byte0 : (frameOperand f).extractLsb' 0 8 = f.b0 := BitVec.extractLsb'_append_eq_right
  have byte1 : (frameOperand f).extractLsb' 8 8 = f.b1 :=
    (extractLsb'_append_byte (f.b3 ++ f.b2 ++ f.b1) f.b0 0 8).trans BitVec.extractLsb'_append_eq_right
  have byte2 : (frameOperand f).extractLsb' 16 8 = f.b2 :=
    ((extractLsb'_append_byte (f.b3 ++ f.b2 ++ f.b1) f.b0 8 8).trans
      (extractLsb'_append_byte (f.b3 ++ f.b2) f.b1 0 8)).trans BitVec.extractLsb'_append_eq_right
  have byte3 : (frameOperand f).extractLsb' 24 8 = f.b3 :=
    ((extractLsb'_append_byte (f.b3 ++ f.b2 ++ f.b1) f.b0 16 8).trans
      (extractLsb'_append_byte (f.b3 ++ f.b2) f.b1 8 8)).trans BitVec.extractLsb'_append_eq_left
  rw [Frame.ofBits, byte0, byte1, byte2, byte3]

/-- Four bytes, packed again, are the bits they were taken from (30_encoding.md R62). -/
theorem frameOperand_ofBits (v : BitVec 32) : frameOperand (Frame.ofBits v) = v := by
  have join (start hi lo : Nat) :
      v.extractLsb' (start + lo) hi ++ v.extractLsb' start lo = v.extractLsb' start (hi + lo) :=
    BitVec.extractLsb'_append_extractLsb'_eq_extractLsb' rfl
  calc v.extractLsb' 24 8 ++ v.extractLsb' 16 8 ++ v.extractLsb' 8 8 ++ v.extractLsb' 0 8
      = v.extractLsb' 16 16 ++ v.extractLsb' 8 8 ++ v.extractLsb' 0 8 := by rw [← join 16 8 8]
    _ = v.extractLsb' 8 24 ++ v.extractLsb' 0 8 := by rw [← join 8 16 8]
    _ = v.extractLsb' 0 32 := join 0 24 8
    _ = v := BitVec.extractLsb'_eq_self

@[simp] theorem frameField_encode_pktSend (f : Frame) : frameField (encode (.pktSend f)) = f := by
  rw [frameField_eq, operandField_encode, operandOf, ofBits_frameOperand]

/-! ## The rows of the decoder -/

/-- The operations without operand (30_encoding.md R63). -/
def bareInstrs : List Instr := [.reset, .txe, .tc, .timer, .tick, .pktRecv]

theorem operandOf_bare {i : Instr} (bare : i ∈ bareInstrs) : operandOf i = 0#32 := by
  revert i; decide

/-- Their op codes (30_encoding.md R60, R65). -/
theorem bareOp_iff (op : BitVec 4) : op.toNat ∈ [0, 2, 3, 4, 5, 7] ↔ ∃ i ∈ bareInstrs, op = opCode i := by
  revert op; decide

/-- The verdicts of the decoder, each with its condition on the word's fields (30_encoding.md R60 to R65). -/
inductive DecodeRow (w : OpWord) : Except Invalid Instr → Prop
  | bare {i : Instr} (bare : i ∈ bareInstrs) (op : opField w = opCode i) (mbz : operandField w = 0#32) :
      DecodeRow w (.ok i)
  | bareMbz {i : Instr} (bare : i ∈ bareInstrs) (op : opField w = opCode i) (set : operandField w ≠ 0#32) :
      DecodeRow w (.error .nonzeroMbz)
  | rxByte (op : opField w = 0x1#4) (mbz : rxByteMbz w = 0#24) : DecodeRow w (.ok (.rxByte (dataField w)))
  | rxByteMbz (op : opField w = 0x1#4) (set : rxByteMbz w ≠ 0#24) : DecodeRow w (.error .nonzeroMbz)
  | pktSend (op : opField w = 0x6#4) : DecodeRow w (.ok (.pktSend (frameField w)))
  | reserved (op : 8 ≤ (opField w).toNat) : DecodeRow w (.error .reservedOp)

/-- The decoder's dispatch on the op code of an operation without operand. -/
theorem decode_of_bareOp {w : OpWord} {i : Instr} (bare : i ∈ bareInstrs) (op : opField w = opCode i) :
    decode w = decodeBare w i := by
  unfold decode
  rw [op]
  cases i with
  | rxByte data => simp [bareInstrs] at bare
  | pktSend f => simp [bareInstrs] at bare
  | _ => rfl

/-- The decoder answers what the row says whose condition holds. -/
theorem DecodeRow.decode_eq {w : OpWord} {v : Except Invalid Instr} (row : DecodeRow w v) : decode w = v := by
  cases row with
  | bare bare op mbz => rw [decode_of_bareOp bare op, decodeBare, if_pos mbz]
  | bareMbz bare op set => rw [decode_of_bareOp bare op, decodeBare, if_neg set]
  | rxByte op mbz => simp [decode, op, mbz]
  | rxByteMbz op set => simp [decode, op, set]
  | pktSend op => simp [decode, op]
  | reserved op =>
    obtain ⟨n, hn⟩ := Nat.exists_eq_add_of_le' op
    rw [decode, hn]
    rfl

/-- For every word one row applies. -/
theorem exists_decodeRow (w : OpWord) : ∃ v, DecodeRow w v := by
  have ops : ∀ op : BitVec 4, op.toNat ∈ [0, 2, 3, 4, 5, 7] ∨ op = 0x1#4 ∨ op = 0x6#4 ∨ 8 ≤ op.toNat := by decide
  rcases ops (opField w) with op | op | op | op
  · obtain ⟨i, bare, op⟩ := (bareOp_iff _).1 op
    by_cases mbz : operandField w = 0#32
    · exact ⟨_, .bare bare op mbz⟩
    · exact ⟨_, .bareMbz bare op mbz⟩
  · by_cases mbz : rxByteMbz w = 0#24
    · exact ⟨_, .rxByte op mbz⟩
    · exact ⟨_, .rxByteMbz op mbz⟩
  · exact ⟨_, .pktSend op⟩
  · exact ⟨_, .reserved op⟩

theorem decodeRow_decode (w : OpWord) : DecodeRow w (decode w) := by
  obtain ⟨v, row⟩ := exists_decodeRow w
  rwa [row.decode_eq]

/-! ## Encode and decode -/

/-- Settles O4: the word of an operation meets the condition of that operation's row. -/
theorem decodeOfEncode : Obligations.DecodeOfEncode := by
  intro i
  cases i with
  | rxByte data => simpa using (DecodeRow.rxByte (opField_encode (.rxByte data)) (by simp)).decode_eq
  | pktSend f => simpa using (DecodeRow.pktSend (opField_encode (.pktSend f))).decode_eq
  | _ => exact (DecodeRow.bare (by decide) (opField_encode _) (operandField_encode _)).decode_eq

/-- Settles O5: in each row the operation has the word's op code and operand. -/
theorem encodeOfDecode : Obligations.EncodeOfDecode := by
  intro w i h
  have row := decodeRow_decode w
  rw [h] at row
  rw [encode_eq_iff]
  cases row with
  | bare bare op mbz => exact ⟨op, mbz.trans (operandOf_bare bare).symm⟩
  | rxByte op mbz => exact ⟨op, by rw [operandField_eq_append, mbz, operandOf]⟩
  | pktSend op => exact ⟨op, by rw [operandOf, frameField_eq, frameOperand_ofBits]⟩

/-- Settles O2: RX_BYTE's two rows, and its word. -/
theorem rxByteWordHoldsItsData : Obligations.RxByteWordHoldsItsData := by
  refine ⟨fun data => ?_, fun w op => ?_, by decide⟩
  · exact BitVec.append_assoc.trans (BitVec.setWidth_eq_append (by omega)).symm
  · split
    · next mbz => exact (DecodeRow.rxByte op mbz).decode_eq
    · next set => exact (DecodeRow.rxByteMbz op set).decode_eq

/-- The words that are `reserved_op` (30_encoding.md R64). -/
theorem decode_eq_reservedOp_iff {w : OpWord} : decode w = .error .reservedOp ↔ 8 ≤ (opField w).toNat := by
  refine ⟨fun h => ?_, fun op => (DecodeRow.reserved op).decode_eq⟩
  have row := decodeRow_decode w
  rw [h] at row
  cases row with
  | reserved op => exact op

/-- The words that are `nonzero_mbz` (30_encoding.md R65). -/
theorem decode_eq_nonzeroMbz_iff {w : OpWord} :
    decode w = .error .nonzeroMbz ↔
      (opField w = 0x1#4 ∧ rxByteMbz w ≠ 0#24) ∨
      ((opField w).toNat ∈ [0, 2, 3, 4, 5, 7] ∧ operandField w ≠ 0#32) := by
  constructor
  · intro h
    have row := decodeRow_decode w
    rw [h] at row
    cases row with
    | bareMbz bare op set => exact .inr ⟨(bareOp_iff _).2 ⟨_, bare, op⟩, set⟩
    | rxByteMbz op set => exact .inl ⟨op, set⟩
  · rintro (⟨op, set⟩ | ⟨op, set⟩)
    · exact (DecodeRow.rxByteMbz op set).decode_eq
    · obtain ⟨i, bare, op⟩ := (bareOp_iff _).1 op
      exact (DecodeRow.bareMbz bare op set).decode_eq

/-! ## The opcode table -/

/-- The word of an operation lies in its row of the table. -/
theorem exists_row_covers_encode (i : Instr) : ∃ r ∈ opcodeTable, r.covers (encode i) = true := by
  have inRow : Laws.EncodedInRow.Statement i := by
    cases i with
    | reset => exact Laws.EncodedInRow.reset
    | rxByte data => exact Laws.EncodedInRow.rxByte data
    | txe => exact Laws.EncodedInRow.txe
    | tc => exact Laws.EncodedInRow.tc
    | timer => exact Laws.EncodedInRow.timer
    | tick => exact Laws.EncodedInRow.tick
    | pktSend f => exact Laws.EncodedInRow.pktSend f
    | pktRecv => exact Laws.EncodedInRow.pktRecv
  obtain ⟨r, mem, -, covers⟩ := inRow
  exact ⟨r, mem, covers⟩

/-- A row's mask leaves the op code as it is, so the row fixes it. -/
theorem opField_of_covers {r : TableRow} {w : OpWord} (mem : r ∈ opcodeTable) (covers : r.covers w = true) :
    opField w = opField r.matchBits := by
  have masks : ∀ r ∈ opcodeTable, opField r.maskBits = BitVec.allOnes 4 := by decide
  have bits : w &&& r.maskBits = r.matchBits := eq_of_beq covers
  have masked : opField (w &&& r.maskBits) = opField w &&& opField r.maskBits := BitVec.extractLsb'_and
  rw [← bits, masked, masks r mem, BitVec.and_allOnes]

/-- A row with every bit in its mask is one word. -/
theorem eq_of_covers_full {r : TableRow} {w : OpWord} (covers : r.covers w = true) (mask : r.maskBits = BitVec.allOnes 36) :
    w = r.matchBits := by
  have bits : w &&& r.maskBits = r.matchBits := eq_of_beq covers
  rwa [mask, BitVec.and_allOnes] at bits

/-- RX_BYTE's row asks that its must-be-zero bits are zero. -/
theorem rxByteMbz_of_covers {w : OpWord} (covers : TableRow.covers ⟨"RX_BYTE", 0x000000001#36, 0xFFFFFF00F#36⟩ w = true) :
    rxByteMbz w = 0#24 := by
  have bits : w &&& 0xFFFFFF00F#36 = 0x000000001#36 := eq_of_beq covers
  have masked : rxByteMbz (w &&& 0xFFFFFF00F#36) = rxByteMbz w &&& BitVec.allOnes 24 := BitVec.extractLsb'_and
  rw [bits, BitVec.and_allOnes] at masked
  exact masked.symm

/-- Every word of a row decodes. -/
theorem exists_decode_of_covers {r : TableRow} {w : OpWord} (mem : r ∈ opcodeTable) (covers : r.covers w = true) :
    ∃ i, decode w = .ok i := by
  by_cases mask : r.maskBits = BitVec.allOnes 36
  · have words : ∀ r ∈ opcodeTable, r.maskBits = BitVec.allOnes 36 → ∃ i ∈ bareInstrs, encode i = r.matchBits := by
      decide
    obtain ⟨i, -, word⟩ := words r mem mask
    rw [eq_of_covers_full covers mask, ← word]
    exact ⟨i, decodeOfEncode i⟩
  · have op := opField_of_covers mem covers
    have others : ∀ r ∈ opcodeTable, r.maskBits ≠ BitVec.allOnes 36 →
        r = ⟨"RX_BYTE", 0x000000001#36, 0xFFFFFF00F#36⟩ ∨ r = ⟨"PKT_SEND", 0x000000006#36, 0x00000000F#36⟩ := by
      decide
    obtain rfl | rfl := others r mem mask
    · exact ⟨_, (DecodeRow.rxByte op (rxByteMbz_of_covers covers)).decode_eq⟩
    · exact ⟨_, (DecodeRow.pktSend op).decode_eq⟩

/-- Settles O7: a word that decodes is some operation's word, which lies in that operation's row; and two rows differ in the
op code. -/
theorem opcodeTableDecides : Obligations.OpcodeTableDecides := by
  refine ⟨fun w => ?_, fun w r hr q hq coversR coversQ => ?_⟩
  · rw [wordWellFormed, List.any_eq_true]
    constructor
    · rintro ⟨i, h⟩
      rw [← encodeOfDecode w i h]
      exact exists_row_covers_encode i
    · rintro ⟨r, mem, covers⟩
      exact exists_decode_of_covers mem covers
  · have distinct : ∀ r ∈ opcodeTable, ∀ q ∈ opcodeTable, opField r.matchBits = opField q.matchBits → r = q := by decide
    exact distinct r hr q hq ((opField_of_covers hr coversR).symm.trans (opField_of_covers hq coversQ))

end Sys2Proof

namespace Sys2Proof.Machine

/-! ## A step on a word -/

/-- A waiting word that decodes is taken, and its operation applied. -/
theorem step_of_decode_ok {s : State} {w : OpWord} {rest : List OpWord} {i : Instr} (waits : s.ops = w :: rest)
    (h : decode w = .ok i) : step s = exec i { s with ops := rest } := by
  simp [step, fetch_cons waits, h]

/-- A waiting word that spells no operation is refused (60_exceptions.md R128(a)). -/
theorem step_of_decode_error {s : State} {w : OpWord} {rest : List OpWord} {why : Invalid} (waits : s.ops = w :: rest)
    (h : decode w = .error why) : step s = .refused (refusalOfInvalid why) := by
  simp [step, fetch_cons waits, h]

/-- Settles O6: the decoder's two error rows, and the refusal of a step. -/
theorem invalidWordsAreRefused : Obligations.InvalidWordsAreRefused := by
  intro w
  exact ⟨decode_eq_reservedOp_iff, decode_eq_nonzeroMbz_iff, fun s rest waits =>
    ⟨step_of_decode_error waits, step_of_decode_error waits⟩⟩

/-- Settles O8: what a step does with a word that decodes, and with none. -/
theorem stepAppliesTheDecodedOperation : Obligations.StepAppliesTheDecodedOperation :=
  ⟨fun _ _ _ _ => step_of_decode_ok, fun s empty => by simp [step, fetch_nil empty]⟩

/-! ## PKT_SEND's check field -/

/-- The payload mask of `frame_for_send` clears the check field (43_packet_queue.md R112). -/
theorem and_payloadMask (b : Byte) : b &&& 0xE0#8 = payloadField b ++ 0#5 := by
  have fields : payloadField b ++ checkField b = b := BitVec.extractLsb'_append_extractLsb'
  have mask : 0xE0#8 = BitVec.allOnes 3 ++ 0#5 := by decide
  calc b &&& 0xE0#8 = (payloadField b ++ checkField b) &&& (BitVec.allOnes 3 ++ 0#5) := by rw [mask, fields]
    _ = payloadField b ++ 0#5 := by rw [BitVec.and_append, BitVec.and_allOnes, BitVec.and_zero]

@[simp] theorem payloadField_withCheckField (b : Byte) (k : Crc5) : payloadField (withCheckField b k) = payloadField b :=
  BitVec.extractLsb'_append_eq_left

/-- The frame that is sent does not depend on the check field it was given (43_packet_queue.md R112). -/
theorem frameForSend_withCheckField (c : Config.Params) (f : Frame) (k : Crc5) :
    frameForSend c { f with b0 := withCheckField f.b0 k } = frameForSend c f := by
  simp only [frameForSend, and_payloadMask, payloadField_withCheckField]

/-- Settles O3: PKT_SEND's row, its operand, and what it deposits. -/
theorem pktSendWordHoldsItsFrame : Obligations.PktSendWordHoldsItsFrame := by
  refine ⟨fun w op => (DecodeRow.pktSend op).decode_eq, fun f => operandField_encode (.pktSend f), fun f k s => ?_, by decide⟩
  simp only [exec_eq_perform, effect, pktSendEffect, frameForSend_withCheckField]
  rfl

end Sys2Proof.Machine
end

section
/-! PROOFS, part 9. The configuration's constraints (30_encoding.md R58) and the three symbol classes (30_encoding.md R57). -/

namespace Sys2Proof.Machine

open Sys2Proof.Config (Params params params_legal)

/-- Settles O9: the configuration is a legal one. -/
theorem configurationMeetsConstraints : Obligations.ConfigurationMeetsConstraints := by
  obtain ⟨injective, syncNotData, disjoint, received, -⟩ := params.legal_iff.1 params_legal
  refine ⟨injective, syncNotData, ?_, received⟩
  rintro b ⟨sync, n, rfl⟩
  simp [disjoint n] at sync

/-- A byte is classed as invalid when it is neither a marker nor a symbol (30_encoding.md R57). -/
theorem decodeSymbol_eq_invalid {c : Params} {b : Byte} :
    decodeSymbol c b = .invalid ↔ c.syncRxSet b = false ∧ ∀ n, c.codebook n ≠ b := by
  rw [← decodeTable_eq_none]
  unfold decodeSymbol
  cases c.syncRxSet b with
  | true => simp
  | false => cases decodeTable c b <;> simp

/-! ## Counting the classes -/

/-- The 256 byte values, in rising order. -/
def allBytes : List Byte := (List.range 256).map (BitVec.ofNat 8)

theorem mem_allBytes (b : Byte) : b ∈ allBytes :=
  List.mem_map.2 ⟨b.toNat, List.mem_range.2 b.isLt, by simp⟩

theorem nodup_allBytes : allBytes.Nodup := by
  refine List.nodup_range.map_on fun m hm n hn h => ?_
  rw [List.mem_range] at hm hn
  simpa [Nat.mod_eq_of_lt hm, Nat.mod_eq_of_lt hn] using congrArg BitVec.toNat h

theorem length_allBytes : allBytes.length = 256 := by simp [allBytes]

/-- Of any bytes, each is in exactly one class. -/
theorem countP_classes (c : Params) (bs : List Byte) :
    bs.countP (fun b => c.syncRxSet b) + bs.countP (fun b => decide (∃ n, decodeSymbol c b = .nibble n)) +
      bs.countP (fun b => decide (decodeSymbol c b = .invalid)) = bs.length := by
  induction bs with
  | nil => rfl
  | cons b bs ih =>
    have sync : c.syncRxSet b = decide (decodeSymbol c b = .sync) := by simp [decodeSymbol_eq_sync]
    simp only [List.countP_cons, List.length_cons, ← ih, sync]
    cases decodeSymbol c b <;> simp <;> omega

/-- The data symbols are the codebook's values, one for each nibble. -/
theorem countP_nibble {c : Params} (legal : c.legal = true) :
    allBytes.countP (fun b => decide (∃ n, decodeSymbol c b = .nibble n)) = 16 := by
  have symbols : (allBytes.filter fun b => decide (∃ n, decodeSymbol c b = .nibble n)).Perm (allNibbles.map c.codebook) := by
    have injective : Function.Injective c.codebook := fun _ _ => Params.codebook_injective legal
    refine (List.perm_ext_iff_of_nodup (nodup_allBytes.filter _) (.map injective (by decide))).2 fun b => ?_
    simp [mem_allBytes, mem_allNibbles, decodeSymbol_eq_nibble legal]
  rw [List.countP_eq_length_filter, symbols.length_eq]
  simp [allNibbles]

/-- Settles O12: the classes' conditions, and the count of all bytes less those of the other two classes. -/
theorem symbolClassesPartitionBytes : Obligations.SymbolClassesPartitionBytes := by
  intro c legal
  have nibbles := countP_nibble legal
  refine ⟨fun b => ⟨decodeSymbol_eq_sync, fun n => decodeSymbol_eq_nibble legal, decodeSymbol_eq_invalid⟩, nibbles, ?_⟩
  have total := countP_classes c allBytes
  rw [nibbles, length_allBytes] at total
  change allBytes.countP _ = 240 - allBytes.countP _
  omega

end Sys2Proof.Machine
end

section
/-! PROOFS, part 10. What the receive framer makes of a sequence of bytes: eight symbols after an aligned marker publish their
frame, and nothing else publishes (30_encoding.md R55, R56). -/

namespace Sys2Proof.Machine

open Sys2Proof.Config (Params params params_legal)

variable {c : Params}

/-! ## The symbols of a frame -/

theorem wireSymbols_eq_ofFn (c : Params) (f : Frame) : wireSymbols c f = List.ofFn fun k => c.codebook (f.nibble k) := by
  simp only [wireSymbols, Frame.nibbles, List.map_map, List.ofFn_eq_map]
  rfl

@[simp] theorem length_wireSymbols (c : Params) (f : Frame) : (wireSymbols c f).length = 8 := by
  simp [wireSymbols_eq_ofFn]

theorem exists_nibble_of_mem_wireSymbols {f : Frame} {b : Byte} (h : b ∈ wireSymbols c f) : ∃ n, c.codebook n = b := by
  rw [wireSymbols_eq_ofFn, List.mem_ofFn] at h
  obtain ⟨k, hk⟩ := h
  exact ⟨f.nibble k, hk⟩

/-- A frame is its symbols, since the codebook is injective. -/
theorem wireSymbols_injective (legal : c.legal = true) {f g : Frame} (h : wireSymbols c f = wireSymbols c g) : f = g := by
  rw [wireSymbols_eq_ofFn, wireSymbols_eq_ofFn, List.ofFn_inj] at h
  exact Frame.eq_of_nibbles fun k => Params.codebook_injective legal (congrFun h k)

/-- Writing one nibble replaces one symbol. -/
theorem wireSymbols_setNibble (c : Params) (f : Frame) (k : Fin 8) (n : Nibble) :
    wireSymbols c (f.setNibble k n) = (wireSymbols c f).set k.val (c.codebook n) := by
  apply List.ext_getElem
  · simp
  · intro i hi hi'
    simp only [wireSymbols_eq_ofFn, List.getElem_ofFn, List.getElem_set, Frame.nibble_setNibble, Fin.ext_iff,
      apply_ite c.codebook, eq_comm]

/-- If a frame's first symbols are right, writing the next nibble makes one more right. -/
theorem concat_prefix_wireSymbols {f : Frame} {symbols : List Byte} {k : Fin 8} (hk : k.val = symbols.length)
    (h : symbols <+: wireSymbols c f) (n : Nibble) :
    symbols ++ [c.codebook n] <+: wireSymbols c (f.setNibble k n) := by
  obtain ⟨rest, hf⟩ := h
  have len := congrArg List.length hf
  rw [List.length_append, length_wireSymbols] at len
  cases rest with
  | nil => rw [List.length_nil] at len; omega
  | cons b rest => exact ⟨rest, by rw [wireSymbols_setNibble, ← hf, hk]; simp⟩

/-! ## The framer's fields after bytes -/

/-- The framer's fields after bytes were received; the tail counter is not among them and stays. -/
def RxFields.afterBytes (c : Params) (tail : Counter) (r : RxFields) (bs : List Byte) : RxFields :=
  bs.foldl (fun r b => r.next tail (decodeSymbol c b)) r

variable {tail : Counter} {r : RxFields}

@[simp] theorem RxFields.afterBytes_nil : r.afterBytes c tail [] = r := rfl

@[simp] theorem RxFields.afterBytes_cons (b : Byte) (bs : List Byte) :
    r.afterBytes c tail (b :: bs) = (r.next tail (decodeSymbol c b)).afterBytes c tail bs := rfl

theorem RxFields.afterBytes_append (as bs : List Byte) :
    r.afterBytes c tail (as ++ bs) = (r.afterBytes c tail as).afterBytes c tail bs := List.foldl_append

theorem RxFields.afterBytes_concat (bs : List Byte) (b : Byte) :
    r.afterBytes c tail (bs ++ [b]) = (r.afterBytes c tail bs).next tail (decodeSymbol c b) := afterBytes_append bs [b]

/-- The framer's state among them is `RxState.afterBytes`. -/
theorem RxFields.afterBytes_state (bs : List Byte) : (r.afterBytes c tail bs).state = r.state.afterBytes c bs := by
  induction bs generalizing r with
  | nil => rfl
  | cons b bs ih =>
    rw [afterBytes_cons, ih, (rxRow_next r tail (decodeSymbol c b)).state_eq]
    rfl

/-- After an aligned marker each symbol is the next one of the assembly buffer; slot and head stay (41_rx_framer.md R84, R85). -/
theorem RxFields.afterBytes_symbols (legal : c.legal = true) (aligned : r.state = .nib 0) {symbols : List Byte}
    (data : ∀ b ∈ symbols, ∃ n, c.codebook n = b) (short : symbols.length < 8) :
    ∃ (k : Fin 8) (buf : Frame), k.val = symbols.length ∧
      r.afterBytes c tail symbols = { r with state := .nib k, buf := buf } ∧ symbols <+: wireSymbols c buf := by
  induction symbols using List.reverseRecOn with
  | nil => exact ⟨0, r.buf, rfl, by rw [← aligned]; rfl, List.nil_prefix⟩
  | append_singleton symbols b ih =>
    rw [List.length_append, List.length_singleton] at short
    obtain ⟨k, buf, hk, fields, pre⟩ := ih (fun b hb => data b (by simp [hb])) (by omega)
    obtain ⟨n, rfl⟩ := data b (by simp)
    refine ⟨k + 1, buf.setNibble k n, by simp; omega, ?_, concat_prefix_wireSymbols hk pre n⟩
    rw [afterBytes_concat, fields, (decodeSymbol_eq_nibble legal).2 rfl, (RxRow.pack rfl (by omega)).next_eq]

/-- What publishing frame `g` leaves (41_rx_framer.md R86). -/
def RxFields.published (r : RxFields) (tail : Counter) (g : Frame) : RxFields :=
  { state := .hunt, buf := g, slot := g, head := if r.head = tail then r.head + 1 else r.head }

/-- Eight symbols after an aligned marker are the symbols of a frame, and publish it. -/
theorem RxFields.afterBytes_eight_symbols (legal : c.legal = true) (aligned : r.state = .nib 0) {symbols : List Byte}
    (data : ∀ b ∈ symbols, ∃ n, c.codebook n = b) (eight : symbols.length = 8) :
    ∃ g, wireSymbols c g = symbols ∧ r.afterBytes c tail symbols = r.published tail g := by
  obtain rfl | ⟨symbols, b, rfl⟩ := List.eq_nil_or_concat' symbols
  · simp at eight
  have seven : symbols.length = 7 := by simpa using eight
  have last : b ∈ symbols ++ [b] := by simp
  have others : ∀ b ∈ symbols, ∃ n, c.codebook n = b := fun b hb => data b (by simp [hb])
  obtain ⟨n, rfl⟩ := data b last
  obtain ⟨k, buf, hk, fields, pre⟩ := afterBytes_symbols (tail := tail) legal aligned others (by omega)
  obtain rfl : k = 7 := by omega
  refine ⟨buf.setNibble 7 n, ?_, ?_⟩
  · exact ((concat_prefix_wireSymbols hk pre n).eq_of_length (by simp [seven])).symm
  · rw [afterBytes_concat, fields, (decodeSymbol_eq_nibble legal).2 rfl, (RxRow.publish rfl).next_eq]
    rfl

/-- Any eight data symbols are the symbols of a frame. -/
theorem exists_wireSymbols (legal : c.legal = true) {symbols : List Byte} (data : ∀ b ∈ symbols, ∃ n, c.codebook n = b)
    (eight : symbols.length = 8) : ∃ g, wireSymbols c g = symbols := by
  obtain ⟨g, h, -⟩ := RxFields.afterBytes_eight_symbols (tail := 0#8)
    (r := { state := .nib 0, buf := default, slot := default, head := 0#8 }) legal rfl data eight
  exact ⟨g, h⟩

/-- The symbols of a frame, received after an aligned marker, publish that frame (30_encoding.md R56). -/
theorem RxFields.afterBytes_wireSymbols (legal : c.legal = true) (aligned : r.state = .nib 0) (g : Frame) :
    r.afterBytes c tail (wireSymbols c g) = r.published tail g := by
  obtain ⟨f, symbols, fields⟩ := afterBytes_eight_symbols (tail := tail) legal aligned
    (fun _ => exists_nibble_of_mem_wireSymbols) (length_wireSymbols c g)
  rw [fields, wireSymbols_injective legal symbols]

/-- A marker received in `SYNC_1` aligns the framer (41_rx_framer.md R82). -/
theorem RxFields.next_marker_state (aligned : r.state = .sync1) {m : Byte} (marker : c.syncRxSet m = true) :
    (r.next tail (decodeSymbol c m)).state = .nib 0 := by
  rw [(rxRow_next r tail (decodeSymbol c m)).state_eq, aligned, decodeSymbol_eq_sync.2 marker]
  rfl

theorem RxFields.published_head_ne (r : RxFields) (tail : Counter) (g : Frame) : (r.published tail g).head ≠ tail := by
  change (if r.head = tail then r.head + 1 else r.head) ≠ tail
  split
  · next empty => rw [empty]; simp
  · next occupied => exact occupied

/-- The history that a publish stands for (30_encoding.md R56): the bytes end in a marker received in `SYNC_1` and the eight
symbols of a frame. -/
def EndsInFrame (c : Params) (r : RxState) (bs before : List Byte) (m : Byte) (g : Frame) : Prop :=
  bs = before ++ m :: wireSymbols c g ∧ c.syncRxSet m = true ∧ r.afterBytes c before = .sync1

/-- After such a history the frame is in the slot, pending. -/
theorem EndsInFrame.published (legal : c.legal = true) {bs before : List Byte} {m : Byte} {g : Frame}
    (h : EndsInFrame c r.state bs before m g) : ∃ r' : RxFields, r.afterBytes c tail bs = r'.published tail g := by
  obtain ⟨rfl, marker, sync1⟩ := h
  rw [RxFields.afterBytes_append, RxFields.afterBytes_cons]
  rw [← RxFields.afterBytes_state (tail := tail)] at sync1
  exact ⟨_, RxFields.afterBytes_wireSymbols legal (RxFields.next_marker_state sync1 marker) g⟩

/-- Slot and head counter stay but for a nibble in `NIB(7)` (41_rx_framer.md R84, R86). -/
theorem RxRow.slot_head_or {u : RxFields} {cls : SymbolClass} (row : RxRow r tail cls u) :
    (u.slot = r.slot ∧ u.head = r.head) ∨ (r.state = .nib 7 ∧ ∃ n, cls = .nibble n) := by
  cases row with
  | move other => exact .inl ⟨rfl, rfl⟩
  | pack inState lt => exact .inl ⟨rfl, rfl⟩
  | publish inState => exact .inr ⟨inState, _, rfl⟩

/-- One more symbol after an aligned marker and seven symbols: the eight are the symbols of a frame. -/
theorem AlignedFor.endsInFrame (legal : c.legal = true) {state : RxState} {bs : List Byte} (h : AlignedFor c state bs 7)
    {b : Byte} (symbol : ∃ n, c.codebook n = b) : ∃ before m g, EndsInFrame c state (bs ++ [b]) before m g := by
  obtain ⟨before, m, last, rfl, seven, data, marker, sync1⟩ := h
  have symbols : ∀ b' ∈ last ++ [b], ∃ n, c.codebook n = b' := by
    intro b' hb
    rcases List.mem_append.1 hb with hb | hb
    · exact data b' hb
    · exact List.mem_singleton.1 hb ▸ symbol
  obtain ⟨g, hg⟩ := exists_wireSymbols legal symbols (by simp [seven])
  exact ⟨before, m, g, by simp [hg], marker, sync1⟩

/-- From HUNT, slot and head counter stay at a byte that ends no such history. -/
theorem RxFields.afterBytes_slot_head (legal : c.legal = true) (hunt : r.state = .hunt) {bs : List Byte} {b : Byte}
    (noFrame : ¬∃ before m g, EndsInFrame c r.state (bs ++ [b]) before m g) :
    (r.afterBytes c tail (bs ++ [b])).slot = (r.afterBytes c tail bs).slot ∧
      (r.afterBytes c tail (bs ++ [b])).head = (r.afterBytes c tail bs).head := by
  rw [afterBytes_concat]
  rcases (rxRow_next (r.afterBytes c tail bs) tail (decodeSymbol c b)).slot_head_or with same | ⟨inState, n, cls⟩
  · exact same
  · rw [afterBytes_state, hunt, afterBytes_eq_nib_iff legal, ← hunt] at inState
    exact absurd (inState.endsInFrame legal ⟨n, (decodeSymbol_eq_nibble legal).1 cls⟩) noFrame

/-- Four sync markers align the framer from every state but `SYNC_1` (30_encoding.md R55). -/
theorem RxFields.afterBytes_four_markers (legal : c.legal = true) (other : r.state ≠ .sync1) :
    r.afterBytes c tail (List.replicate 4 c.syncCode) = { r with state := .nib 0 } := by
  have marker : decodeSymbol c c.syncCode = .sync := decodeSymbol_eq_sync.2 (Params.syncCode_received legal)
  obtain ⟨state, buf, slot, head⟩ := r
  simp only [List.replicate, afterBytes_cons, marker]
  cases state with
  | hunt => rfl
  | sync1 => exact absurd rfl other
  | nib k => rfl

/-- The twelve bytes of a frame publish it, from every state but `SYNC_1` (30_encoding.md R55, R56). -/
theorem RxFields.afterBytes_wireFrame (legal : c.legal = true) (other : r.state ≠ .sync1) (g : Frame) :
    r.afterBytes c tail (wireFrame c g) = r.published tail g := by
  rw [wireFrame, afterBytes_append, afterBytes_four_markers legal other, afterBytes_wireSymbols legal rfl]
  rfl

/-! ## Runs -/

variable {s : State}

/-- Bytes change the framer's fields and the output record, and nothing else. -/
theorem run_rxBytes_cons (b : Byte) (bs : List Byte) (init : s.initialised = true) :
    ∃ outs, run ((b :: bs).map .rxByte) s =
      some (outs, (s.withRxFields (s.rxFields.afterBytes params s.rxTail (b :: bs))).silent) := by
  have first : exec (.rxByte b) s = .next (rxByteEffect params b s) := exec_of_enabled (by simpa using init)
  induction bs generalizing b s with
  | nil => exact ⟨_, run_cons_eq_some.2 ⟨_, [], first, rfl, rfl⟩⟩
  | cons b' bs ih =>
    obtain ⟨outs, rest⟩ := ih (s := rxByteEffect params b s) b' init (exec_of_enabled ((enabled_rxByte b' _).trans init))
    exact ⟨_, run_cons_eq_some.2 ⟨_, outs, first, rest, rfl⟩⟩

/-- The framer's fields after a run of bytes. -/
theorem run_rxBytes_fields (bs : List Byte) (init : s.initialised = true) :
    ∃ outs t, run (bs.map .rxByte) s = some (outs, t) ∧ t.rxFields = s.rxFields.afterBytes params s.rxTail bs ∧
      t.rxTail = s.rxTail ∧ t.initialised = true := by
  cases bs with
  | nil => exact ⟨[], s, rfl, rfl, rfl, init⟩
  | cons b bs =>
    obtain ⟨outs, h⟩ := run_rxBytes_cons b bs init
    exact ⟨outs, _, h, rfl, rfl, init⟩

/-- Settles O26: four markers align the framer, and the eight symbols after them publish their frame. -/
theorem wireFrameIsReceived : Obligations.WireFrameIsReceived := by
  intro g s init other
  have bytes : rxFrame params g = (wireFrame params g).map .rxByte := by
    simp [rxFrame, rxSync4, rxSymbols, wireFrame]
  obtain ⟨outs, h⟩ := run_rxBytes_cons params.syncCode (List.replicate 3 params.syncCode ++ wireSymbols params g) init
  have fields := RxFields.afterBytes_wireFrame (r := s.rxFields) (tail := s.rxTail) params_legal other g
  refine ⟨outs, ?_⟩
  rw [bytes]
  exact h.trans (by rw [← List.cons_append, ← List.replicate_succ, ← wireFrame, fields]; rfl)

/-- Settles O25: after a history that ends in a frame the fields are `RxFields.published`, and only after such a history does
the framer publish (`RxFields.afterBytes_slot_head`). -/
theorem publishesExactlyWholeFrames : Obligations.PublishesExactlyWholeFrames := by
  intro bs b s init hunt
  obtain ⟨outs, t, hr, before_b, tail, init'⟩ := run_rxBytes_fields bs init
  have last : (effect (.rxByte b) t).rxFields = s.rxFields.afterBytes params s.rxTail (bs ++ [b]) := by
    rw [RxFields.afterBytes_concat, ← before_b, ← tail]
    rfl
  refine ⟨outs, t, effect (.rxByte b) t, hr, exec_of_enabled (by simpa using init'), ?_, ?_⟩
  · intro before m g ends marker sync1
    rw [run_rxBytes_state_iff before init] at sync1
    obtain ⟨r, published⟩ := EndsInFrame.published (r := s.rxFields) (tail := s.rxTail) params_legal ⟨ends, marker, sync1⟩
    have fields := last.trans published
    have pending : (effect (.rxByte b) t).rxFields.head ≠ s.rxTail := by
      rw [fields]
      exact r.published_head_ne s.rxTail g
    exact ⟨congrArg RxFields.slot fields, tail ▸ pending, congrArg RxFields.state fields⟩
  · simp only [run_rxBytes_state_iff _ init]
    intro noFrame
    obtain ⟨slot, head⟩ := RxFields.afterBytes_slot_head (r := s.rxFields) (tail := s.rxTail) params_legal hunt noFrame
    rw [← last, ← before_b] at slot head
    exact ⟨slot, head⟩

end Sys2Proof.Machine
end

section
/-! PROOFS, part 11. The codec and the CRC (40_codec_crc.md R73, R74, R78 to R80): the inverse table, and what the check field
of byte 0 can change. -/

namespace Sys2Proof.Machine

open Sys2Proof.Config (Params)

/-! ## The inverse table -/

/-- The inverse table of an injective codebook is its inverse (40_codec_crc.md R73). -/
theorem decodeTable_eq_some {c : Params} (legal : c.legal = true) {b : Byte} {n : Nibble} :
    decodeTable c b = some n ↔ c.codebook n = b := by
  refine ⟨codebook_of_decodeTable, ?_⟩
  rintro rfl
  cases hit : decodeTable c (c.codebook n) with
  | none => exact absurd rfl (decodeTable_eq_none.1 hit n)
  | some m => rw [Params.codebook_injective legal (codebook_of_decodeTable hit)]

/-- Settles O10: the table's hits and misses, and the class of a symbol. -/
theorem decodeTableInvertsCodebook : Obligations.DecodeTableInvertsCodebook := by
  intro c legal
  exact ⟨fun b n => (decodeTable_eq_some legal).2, fun b => decodeTable_eq_none.2,
    fun w n => (decodeSymbol_eq_nibble legal).2 rfl⟩

/-- Settles O11: a hit of the table is a symbol, hence no marker, so only at a miss does the sync test decide. -/
theorem syncTestOrderDoesNotMatter : Obligations.SyncTestOrderDoesNotMatter := by
  intro c legal b
  cases hit : decodeTable c b with
  | none => simp [decodeSymbol, hit]
  | some n =>
    have noMarker : c.syncRxSet b = false := codebook_of_decodeTable hit ▸ Params.codebook_not_sync legal n
    simp [decodeSymbol, hit, noMarker]

/-! ## The check field -/

/-- A byte is its payload field and its check field. -/
theorem withCheckField_checkField (b : Byte) : withCheckField b (checkField b) = b :=
  BitVec.extractLsb'_append_extractLsb'

@[simp] theorem checkField_withCheckField (b : Byte) (k : Crc5) : checkField (withCheckField b k) = k :=
  BitVec.extractLsb'_append_eq_right

@[simp] theorem withCheckField_withCheckField (b : Byte) (j k : Crc5) :
    withCheckField (withCheckField b j) k = withCheckField b k := by
  rw [withCheckField, payloadField_withCheckField, withCheckField]

/-- An OR with five bits changes the check field only. -/
theorem withCheckField_or (b : Byte) (j k : Crc5) :
    withCheckField b j ||| k.setWidth 8 = withCheckField b (j ||| k) := by
  have bits : k.setWidth 8 = 0#3 ++ k := BitVec.setWidth_eq_append (by decide)
  rw [bits, withCheckField, BitVec.or_append, BitVec.or_zero, withCheckField]

/-- The CRC's mask sets the check field to ones (40_codec_crc.md R76). -/
theorem or_checkMask (b : Byte) : b ||| 0x1F#8 = withCheckField b (BitVec.allOnes 5) := by
  calc b ||| 0x1F#8 = withCheckField b (checkField b) ||| (BitVec.allOnes 5).setWidth 8 := by
        rw [withCheckField_checkField]; rfl
    _ = withCheckField b (BitVec.allOnes 5) := by rw [withCheckField_or, BitVec.or_allOnes]

/-- Under any core a CRC depends on the payload field and bytes 1 to 3 only (40_codec_crc.md R79). -/
@[simp] theorem crcUnder_withCheckField (core : Byte → Byte → Byte → Byte → Crc5) (f : Frame) (k : Crc5) :
    crcUnder core { f with b0 := withCheckField f.b0 k } = crcUnder core f := by
  simp only [crcUnder, or_checkMask, withCheckField_withCheckField]

/-- Settles O13. -/
theorem crcIgnoresCheckField : Obligations.CrcIgnoresCheckField := by
  intro c f k
  refine ⟨crcUnder_withCheckField _ f k, crcUnder_withCheckField _ f k, ?_⟩
  rw [or_checkMask, withCheckField_withCheckField, or_checkMask]

/-- The frame that goes into the slot is the caller's with its CRC as check field (43_packet_queue.md R112). -/
theorem frameForSend_eq (c : Params) (f : Frame) :
    frameForSend c f = { f with b0 := withCheckField f.b0 (crc5Tx c f) } := by
  have masked : f.b0 &&& 0xE0#8 = withCheckField f.b0 0#5 := and_payloadMask f.b0
  simp only [frameForSend, masked, crc5Tx, crcUnder_withCheckField, withCheckField_or, BitVec.zero_or]

/-- The check of a frame with a given check field: whether that field is the receiver's CRC (40_codec_crc.md R78). -/
theorem crcCheck_withCheckField (c : Params) (f : Frame) (k : Crc5) :
    crcCheck c { f with b0 := withCheckField f.b0 k } = (crc5Rx c f == k) := by
  simp only [crcCheck, crc5Rx, crcUnder_withCheckField, checkField_withCheckField]

/-- Under `RT` sender and receiver compute the same CRC (40_codec_crc.md R80). -/
theorem crc5Rx_eq_crc5Tx {c : Params} (rt : RT c) (f : Frame) : crc5Rx c f = crc5Tx c f := by
  rw [crc5Rx, crc5Tx, show c.crc5TxCore = c.crc5RxCore from rt]

/-- A sent frame passes the receiver's check under `RT` (40_codec_crc.md R80). -/
theorem crcCheck_frameForSend {c : Params} (rt : RT c) (f : Frame) : crcCheck c (frameForSend c f) = true := by
  rw [frameForSend_eq, crcCheck_withCheckField, crc5Rx_eq_crc5Tx rt, beq_self_eq_true]

/-- A sent frame's check field is its own CRC (43_packet_queue.md R112). -/
theorem checkField_frameForSend (c : Params) (f : Frame) :
    checkField (frameForSend c f).b0 = crc5Tx c (frameForSend c f) := by
  rw [frameForSend_eq, checkField_withCheckField, crc5Tx, crc5Tx, crcUnder_withCheckField]

/-- Settles O15: the check compares the receiver's CRC with the check field, and that is the sender's CRC. -/
theorem sentFramePassesCheckUnderRT : Obligations.SentFramePassesCheckUnderRT := by
  refine ⟨fun c f => ?_, fun c rt => crcCheck_frameForSend rt, fun c rt f k => ?_⟩
  · change (crc5Rx c (frameForSend c f) == _) = (crc5Rx c (frameForSend c f) == crc5Tx c (frameForSend c f))
    rw [checkField_frameForSend]
  · have replaced : { frameForSend c f with b0 := withCheckField f.b0 k } = { f with b0 := withCheckField f.b0 k } := by
      rw [frameForSend_eq]
    rw [replaced, crcCheck_withCheckField, crc5Rx_eq_crc5Tx rt, beq_iff_eq, eq_comm]

end Sys2Proof.Machine
end

section
/-! PROOFS, part 12. A frame crosses the link (42_tx_framer.md R98, R99, R104, 43_packet_queue.md R114): the bytes that the
serializer emits, and the delivery of what was received. -/

namespace Sys2Proof.Machine

open Sys2Proof.Config (Params params params_legal)

/-! ## Runs -/

/-- Two runs, one after the other. -/
theorem run_append {is js : List Instr} {s t u : State} {outs outs' : List Out} (first : run is s = some (outs, t))
    (second : run js t = some (outs', u)) : run (is ++ js) s = some (outs ++ outs', u) := by
  induction is generalizing s outs with
  | nil =>
    obtain ⟨rfl, rfl⟩ : [] = outs ∧ s = t := by simpa [run] using first
    exact second
  | cons i is ih =>
    obtain ⟨v, outs, step, rest, rfl⟩ := run_cons_eq_some.1 first
    exact run_cons_eq_some.2 ⟨v, outs ++ outs', step, ih rest, rfl⟩

@[simp] theorem byteStream_nil : byteStream [] = [] := rfl

@[simp] theorem byteStream_cons (o : Out) (outs : List Out) :
    byteStream (o :: outs) = o.byte.toList ++ byteStream outs := by
  cases h : o.byte <;> simp [byteStream, h]

@[simp] theorem byteStream_append (outs outs' : List Out) : byteStream (outs ++ outs') = byteStream outs ++ byteStream outs' :=
  List.filterMap_append

/-- Received bytes return no result (10_state.md R31). -/
theorem results_run_rxBytes {bs : List Byte} {s t : State} {outs : List Out}
    (h : run (bs.map .rxByte) s = some (outs, t)) : outs.filterMap (·.result) = [] := by
  induction bs generalizing s outs with
  | nil =>
    obtain ⟨rfl, -⟩ : [] = outs ∧ s = t := by simpa [run] using h
    rfl
  | cons b bs ih =>
    obtain ⟨u, outs, step, rest, rfl⟩ := run_cons_eq_some.1 h
    obtain ⟨-, rfl⟩ := exec_eq_next.1 step
    simpa [effect, rxByteEffect] using ih rest

/-! ## The serializer -/

/-- How many bytes of its frame the serializer has emitted (42_tx_framer.md R93). -/
def TxState.emitted : TxState → Nat
  | .idle => 0
  | .sync2 => 1
  | .sync3 => 2
  | .sync4 => 3
  | .pay k => 4 + k.val
  | .eof => 12

/-- The symbols from number `k` on. -/
theorem drop_wireFrame (c : Params) (f : Frame) (k : Fin 8) :
    (wireFrame c f).drop (4 + k.val) = encodeNibble c (f.nibble k) :: (wireFrame c f).drop (4 + k.val + 1) := by
  have symbols (m : Nat) : (wireFrame c f).drop (4 + m) = (wireSymbols c f).drop m :=
    List.drop_drop.symm
  rw [add_assoc, symbols, symbols, List.drop_eq_getElem_cons (by simp)]
  simp [wireSymbols, Frame.nibbles]

variable {s : State}

theorem exec_txe_of_row {u : State} (init : s.initialised = true) (driven : s.txeIe = true) (row : TxeRow params s u) :
    exec .txe s = .next u :=
  exec_eq_next.2 ⟨by simp [init, driven], row.txeEffect_eq⟩

/-- In a sync or payload state TXE emits the next byte of the frame; before nibble 7 it goes on to the state after that byte
(42_tx_framer.md R98, R99). -/
theorem exec_txe_emits_next (init : s.initialised = true) (driven : s.txeIe = true) (started : 0 < s.txState.emitted)
    (more : s.txState.emitted < 11) :
    ∃ next b, exec .txe s = .next { s with txState := next, out := ⟨some b, none⟩ } ∧
      next.emitted = s.txState.emitted + 1 ∧
      (wireFrame params s.txSlot).drop s.txState.emitted = b :: (wireFrame params s.txSlot).drop next.emitted := by
  cases inState : s.txState with
  | idle => simp [inState, TxState.emitted] at started
  | sync2 => exact ⟨_, _, exec_txe_of_row init driven (.sync2 inState), rfl, rfl⟩
  | sync3 => exact ⟨_, _, exec_txe_of_row init driven (.sync3 inState), rfl, rfl⟩
  | sync4 => exact ⟨_, _, exec_txe_of_row init driven (.sync4 inState), rfl, rfl⟩
  | pay k =>
    have lt : k.val < 7 := by rw [inState, TxState.emitted] at more; omega
    have next : (TxState.pay (k + 1)).emitted = 4 + k.val + 1 := by simp [TxState.emitted]; omega
    refine ⟨_, _, exec_txe_of_row init driven (.nibble inState lt), next, ?_⟩
    rw [next]
    exact drop_wireFrame params s.txSlot k
  | eof => simp [inState, TxState.emitted] at more

/-- A frame that the serializer has begun is emitted to its last byte, and that frees the slot (42_tx_framer.md R98, R99). -/
theorem run_txe_to_eof (init : s.initialised = true) (driven : s.txeIe = true) (started : 0 < s.txState.emitted) {n : Nat}
    (left : s.txState.emitted + (n + 1) = 12) :
    ∃ outs out, run (List.replicate (n + 1) .txe) s =
        some (outs, { s with txState := .eof, txTail := s.txTail + 1, out := out }) ∧
      byteStream outs = (wireFrame params s.txSlot).drop s.txState.emitted := by
  induction n generalizing s with
  | zero =>
    obtain inState : s.txState = .pay 7 := by
      cases inState : s.txState with
      | pay k => rw [inState, TxState.emitted] at left; congr; omega
      | _ => simp [inState, TxState.emitted] at left
    refine ⟨_, _, run_cons_eq_some.2 ⟨_, [], exec_txe_of_row init driven (.lastNibble inState), rfl, rfl⟩, ?_⟩
    rw [inState]
    exact (drop_wireFrame params s.txSlot 7).symm
  | succ n ih =>
    obtain ⟨next, b, step, emitted, wire⟩ := exec_txe_emits_next init driven started (by omega)
    obtain ⟨outs, out, rest, bytes⟩ := ih (s := { s with txState := next, out := ⟨some b, none⟩ }) init driven
      (by rw [emitted]; omega) (by rw [emitted]; omega)
    refine ⟨_, out, run_cons_eq_some.2 ⟨_, outs, step, rest, rfl⟩, ?_⟩
    rw [byteStream_cons, bytes, wire]
    rfl

/-- An idle serializer that is driven, with the transmitter on, emits the pending frame whole (42_tx_framer.md R96, R98, R99). -/
theorem run_txe_frame (init : s.initialised = true) (driven : s.txeIe = true) (idle : s.txState = .idle)
    (on : s.txEnabled = true) (pending : s.txPending = true) :
    ∃ outs out, run (List.replicate 12 .txe) s =
        some (outs, { s with txState := .eof, txTail := s.txTail + 1, out := out }) ∧
      byteStream outs = wireFrame params s.txSlot := by
  obtain ⟨outs, out, rest, bytes⟩ := run_txe_to_eof
    (s := { s with txState := .sync2, out := ⟨some params.syncCode, none⟩ }) (n := 10) init driven Nat.one_pos rfl
  refine ⟨_, out, run_cons_eq_some.2 ⟨_, outs, exec_txe_of_row init driven (.startFrame idle on pending), rest, rfl⟩, ?_⟩
  rw [byteStream_cons, bytes]
  rfl

/-- After a kick the transmitter comes on, and the timer's end drives the serializer again (42_tx_framer.md R95, R102). -/
theorem run_idleGap (init : s.initialised = true) (driven : s.txeIe = true) (idle : s.txState = .idle)
    (off : s.txEnabled = false) :
    run [.txe, .timer] s =
      some ([⟨none, none⟩, ⟨none, none⟩], { s with txEnabled := true, timerArmed := false, out := ⟨none, none⟩ }) := by
  refine run_cons_eq_some.2 ⟨_, _, exec_txe_of_row init driven (.startGap idle off),
    run_cons_eq_some.2 ⟨_, [], exec_of_enabled (by simp [init]), ?_, rfl⟩, rfl⟩
  simp [run, effect, State.timerElapsed, State.silent, driven]

/-- At the end of a frame, with the slot free, the transmitter goes off (42_tx_framer.md R100, R101). -/
theorem run_completion (init : s.initialised = true) (driven : s.txeIe = true) (inState : s.txState = .eof)
    (free : s.txHead = s.txTail) :
    run [.txe, .tc] s =
      some ([⟨none, none⟩, ⟨none, none⟩],
        { s with txState := .idle, txeIe := false, tcIe := false, txEnabled := false, out := ⟨none, none⟩ }) := by
  refine run_cons_eq_some.2 ⟨_, _, exec_txe_of_row init driven (.finish inState (by simp [State.txPending, free])),
    run_cons_eq_some.2 ⟨_, [], exec_of_enabled (by simp [init]), ?_, rfl⟩, rfl⟩
  simp [run, effect, completeTransmission_silent_eq, State.txPending, free]

/-- After a kick, `TX_RUN_QUIESCENT` emits the one pending frame and leaves the transmitter off (42_tx_framer.md R104). -/
theorem run_txRunQuiescent (init : s.initialised = true) (driven : s.txeIe = true) (idle : s.txState = .idle)
    (off : s.txEnabled = false) (one : s.txHead = s.txTail + 1) :
    ∃ outs, run txRunQuiescent s =
        some (outs,
          { s with
            txState := .idle, txTail := s.txTail + 1
            txeIe := false, tcIe := false, txEnabled := false, timerArmed := false, out := ⟨none, none⟩ }) ∧
      byteStream outs = wireFrame params s.txSlot := by
  obtain ⟨outs, out, frame, bytes⟩ :=
    run_txe_frame (s := { s with txEnabled := true, timerArmed := false, out := ⟨none, none⟩ }) init driven idle rfl
      (by simp [State.txPending, one])
  exact ⟨_, run_append (run_idleGap init driven idle off) (run_append frame (run_completion init driven rfl one)),
    by simp [bytes]⟩

/-! ## The link -/

/-- The frame that is pending alone is taken by one PKT_RECV, delivered if its CRC matches, and by the next not again
(43_packet_queue.md R114 to R116). -/
theorem run_pktRecv_twice (init : s.initialised = true) (one : s.rxHead = s.rxTail + 1) :
    run [.pktRecv, .pktRecv] s =
      some ([⟨none, some (.received (if crcCheck params s.rxSlot then some s.rxSlot else none))⟩,
          ⟨none, some (.received none)⟩],
        { s with rxTail := s.rxTail + 1, out := ⟨none, some (.received none)⟩ }) := by
  have pending : s.rxPending = true := by simp [State.rxPending, one]
  have empty : State.rxPending { s with rxTail := s.rxTail + 1 } = false := by simp [State.rxPending, one]
  exact run_cons_eq_some.2 ⟨_, _, exec_eq_next.2 ⟨by simp [init], pktRecvEffect_of_pending pending params⟩,
    run_cons_eq_some.2 ⟨_, [], exec_eq_next.2 ⟨by simp [init], pktRecvEffect_of_empty empty params⟩, rfl, rfl⟩, rfl⟩

theorem map_rxByte_wireFrame (c : Params) (g : Frame) : (wireFrame c g).map .rxByte = rxFrame c g := by
  simp [rxFrame, rxSync4, rxSymbols, wireFrame]

/-- The bytes of a frame, received in any state but `SYNC_1` with the slot empty, make that frame the one the next PKT_RECV
takes (30_encoding.md R56, 43_packet_queue.md R114). -/
theorem run_wireFrame_pktRecv_twice (g : Frame) (init : s.initialised = true) (other : s.rxState ≠ .sync1)
    (empty : s.rxPending = false) :
    ∃ outs u, run ((wireFrame params g).map .rxByte ++ [.pktRecv, .pktRecv]) s = some (outs, u) ∧
      outs.filterMap (·.result) = [.received (if crcCheck params g then some g else none), .received none] := by
  obtain ⟨outs, bytes⟩ := wireFrameIsReceived g s init other
  rw [← map_rxByte_wireFrame] at bytes
  have free : s.rxHead = s.rxTail := by simpa [State.rxPending] using empty
  refine ⟨_, _, run_append bytes (run_pktRecv_twice init ?_), ?_⟩
  · simp [free]
  · rw [List.filterMap_append, results_run_rxBytes bytes]
    rfl

/-- Settles O51: the sender's bytes are the frame's (`run_txRunQuiescent`), and the receiver takes that frame once. -/
theorem sentFrameCrossesTheLink : Obligations.SentFrameCrossesTheLink := by
  intro f s r init control off free init' other empty
  obtain ⟨idle, -, -⟩ := control.offIsIdle off
  have one : s.txHead + 1 = s.txTail + 1 := congrArg (· + 1) (by simpa [State.txPending] using free)
  have deposit : exec (.pktSend f) s = .next (pktSendEffect params f s) := exec_of_enabled (by simp [init])
  rw [pktSendEffect_of_free free] at deposit
  obtain ⟨outs, sent, bytes⟩ := run_txRunQuiescent (s := { s with
      txSlot := frameForSend params f, txHead := s.txHead + 1, txeIe := !s.txEnabled || s.txeIe
      out := ⟨none, some (.sent true)⟩ }) init (by simp [off]) idle off one
  obtain ⟨outs', v, received, results⟩ := run_wireFrame_pktRecv_twice (frameForSend params f) init' other empty
  exact ⟨_, outs, _, deposit, sent, outs', v, by rw [bytes]; exact received, results, fun rt => crcCheck_frameForSend rt f⟩

end Sys2Proof.Machine
end

section
/-! PROOFS, part 13. RX_BYTE's table, nibble packing and resynchronisation (41_rx_framer.md R85, R89, R91), and that neither
half reads the other (41_rx_framer.md R90). -/

namespace Sys2Proof

/-! ## Nibble packing -/

theorem Frame.byte_setByte (f : Frame) (i j : Fin 4) (b : Byte) :
    (f.setByte i b).byte j = if j = i then b else f.byte j := by
  fin_cases i <;> fin_cases j <;> rfl

/-- Packing replaces one byte, in which it writes the half that `k` names (41_rx_framer.md R85). -/
theorem Frame.byte_setNibble (f : Frame) (k : Fin 8) (n : Nibble) (i : Fin 4) :
    (f.setNibble k n).byte i =
      if i.val = k.val / 2 then
        if k.val % 2 = 1 then setHighNibble (f.byte i) n else setLowNibble (f.byte i) n
      else f.byte i := by
  have here : i = byteOfNibble k ↔ i.val = k.val / 2 := by simp [Fin.ext_iff, byteOfNibble, Nat.shiftRight_one]
  have high : isHighNibble k = decide (k.val % 2 = 1) := Nat.testBit_zero k.val
  simp only [Frame.setNibble, high, decide_eq_true_eq, apply_ite (Frame.byte · i), Frame.byte_setByte, here]
  by_cases hi : i.val = k.val / 2
  · obtain rfl := here.2 hi
    simp only [hi, if_true]
  · simp only [hi, if_false, ite_self]

/-- Settles O22, by the byte that packing replaces. -/
theorem packingWritesOneHalfByte : Obligations.PackingWritesOneHalfByte := by
  intro f k n i
  change lowNibble _ = (if _ then n else lowNibble _) ∧ highNibble _ = (if _ then n else highNibble _)
  rw [Frame.byte_setNibble]
  by_cases here : i.val = k.val / 2
  · rcases Nat.mod_two_eq_zero_or_one k.val with even | odd
    · simp [here, even]
    · simp [here, odd]
  · simp [here]

end Sys2Proof

namespace Sys2Proof.Machine

open Sys2Proof.Config (Params params)

/-! ## RX_BYTE's table -/

/-- RX_BYTE where it changes the framer's state alone (41_rx_framer.md R82 to R84). -/
theorem rxByteEffect_of_move {c : Params} {b : Byte} {s : State} {r : RxState}
    (other : ∀ k n, s.rxState = .nib k → decodeSymbol c b ≠ .nibble n) (after : s.rxState.after (decodeSymbol c b) = r) :
    rxByteEffect c b s = { s with rxState := r, out := ⟨none, none⟩ } := by
  subst after
  rw [rxByteEffect, (RxRow.move other).next_eq]
  rfl

/-- RX_BYTE where it packs a nibble, and at nibble 7 publishes (41_rx_framer.md R84 to R86). -/
theorem rxByteEffect_of_nibble {c : Params} {b : Byte} {s : State} {k : Fin 8} {n : Nibble}
    (cls : decodeSymbol c b = .nibble n) (inState : s.rxState = .nib k) :
    rxByteEffect c b s =
      if k = 7 then
        { s with
          rxState := .hunt, rxBuf := s.rxBuf.setNibble 7 n, rxSlot := s.rxBuf.setNibble 7 n
          rxHead := if s.rxHead = s.rxTail then s.rxHead + 1 else s.rxHead, out := ⟨none, none⟩ }
      else { s with rxState := .nib (k + 1), rxBuf := s.rxBuf.setNibble k n, out := ⟨none, none⟩ } := by
  rw [rxByteEffect, cls]
  split
  · next last =>
    subst last
    rw [(RxRow.publish inState).next_eq]
    rfl
  · next notLast =>
    rw [(RxRow.pack inState (by omega)).next_eq]
    rfl

/-- Settles O21, cell by cell. -/
theorem rxByteFollowsItsTable : Obligations.RxByteFollowsItsTable := by
  intro b s init
  refine (exec_of_enabled (by simpa using init)).trans (congrArg _ ?_)
  change rxByteEffect params b s = _
  cases cls : decodeSymbol params b with
  | sync =>
    cases inState : s.rxState <;> exact rxByteEffect_of_move (by simp [cls]) (by rw [cls, inState]; rfl)
  | invalid =>
    cases inState : s.rxState <;> exact rxByteEffect_of_move (by simp [cls]) (by rw [cls, inState]; rfl)
  | nibble n =>
    cases inState : s.rxState with
    | hunt => exact rxByteEffect_of_move (by simp [inState]) (by rw [cls, inState]; rfl)
    | sync1 => exact rxByteEffect_of_move (by simp [inState]) (by rw [cls, inState]; rfl)
    | nib k => exact rxByteEffect_of_nibble cls inState

/-! ## Resynchronisation -/

theorem RxState.after_hunt {cls : SymbolClass} (h : cls ≠ .sync) : RxState.hunt.after cls = .hunt := by
  cases cls with
  | sync => exact absurd rfl h
  | invalid => rfl
  | nibble n => rfl

/-- Without a marker the framer hunts on (41_rx_framer.md R89(a)). -/
theorem RxState.afterBytes_hunt {c : Params} {bs : List Byte} (noMarker : ∀ b ∈ bs, c.syncRxSet b = false) :
    RxState.hunt.afterBytes c bs = .hunt := by
  induction bs with
  | nil => rfl
  | cons b bs ih =>
    have cls : decodeSymbol c b ≠ .sync := by simp [decodeSymbol_eq_sync, noMarker b (by simp)]
    rw [RxState.afterBytes, List.foldl_cons, RxState.after_hunt cls]
    exact ih fun b' hb => noMarker b' (by simp [hb])

/-- A marker aligns the framer in `SYNC_1` only, from where the next marker leads back (41_rx_framer.md R82). -/
theorem RxState.after_sync (r : RxState) : r.after .sync = if r = .sync1 then .nib 0 else .sync1 := by
  cases r <;> rfl

/-- Settles O23: bytes follow `RxState.afterBytes`, and markers `RxState.after_sync`. -/
theorem twoMarkersResynchronise : Obligations.TwoMarkersResynchronise := by
  refine ⟨fun bs s init hunt noMarker => ?_, fun a b s init ha hb => ?_⟩
  · rw [run_rxBytes_state_iff bs init, hunt]
    exact RxState.afterBytes_hunt noMarker
  · have first : enabled (.rxByte a) s = true := by simpa using init
    have second : enabled (.rxByte b) (effect (.rxByte a) s) = true := by simpa using effect_initialised first
    refine ⟨_, _, exec_of_enabled first, exec_of_enabled second, ?_⟩
    simp only [effect, rxByteEffect_rxState, decodeSymbol_eq_sync.2 ha, decodeSymbol_eq_sync.2 hb, RxState.after_sync]
    exact ⟨fun other => by simp [other], fun sync1 => by simp [sync1]⟩

/-! ## The two halves share no state -/

/-- A state with the transmit half of another. -/
def State.withTransmitHalf (t s : State) : State :=
  { t with
    txState := s.txState, txSlot := s.txSlot, txHead := s.txHead, txTail := s.txTail
    txeIe := s.txeIe, tcIe := s.tcIe, txEnabled := s.txEnabled, timerArmed := s.timerArmed }

/-- A state with the receive half of another. -/
def State.withReceiveHalf (t s : State) : State :=
  { t with rxState := s.rxState, rxBuf := s.rxBuf, rxSlot := s.rxSlot, rxHead := s.rxHead, rxTail := s.rxTail }

theorem SameTransmitHalf.withTransmitHalf_eq {s t : State} (h : SameTransmitHalf s t) : t.withTransmitHalf s = t := by
  obtain ⟨txState, txSlot, txHead, txTail, txeIe, tcIe, txEnabled, timerArmed⟩ := h
  simp only [State.withTransmitHalf, ← txState, ← txSlot, ← txHead, ← txTail, ← txeIe, ← tcIe, ← txEnabled, ← timerArmed]

theorem SameReceiveHalf.withReceiveHalf_eq {s t : State} (h : SameReceiveHalf s t) : t.withReceiveHalf s = t := by
  obtain ⟨rxState, rxBuf, rxSlot, rxHead, rxTail⟩ := h
  simp only [State.withReceiveHalf, ← rxState, ← rxBuf, ← rxSlot, ← rxHead, ← rxTail]

/-- A row of the transmit table has its condition, what it writes and what it puts out in the transmit half alone. -/
theorem TxeRow.withTransmitHalf {c : Params} {s u : State} (row : TxeRow c s u) (t : State) :
    TxeRow c (t.withTransmitHalf s) { t.withTransmitHalf u with out := u.out } := by
  cases row with
  | startGap idle off => exact .startGap idle off
  | startFrame idle on pending => exact .startFrame idle on pending
  | nothingToSend idle on free => exact .nothingToSend idle on free
  | sync2 inState => exact .sync2 inState
  | sync3 inState => exact .sync3 inState
  | sync4 inState => exact .sync4 inState
  | nibble inState lt => exact .nibble inState lt
  | lastNibble inState => exact .lastNibble inState
  | join inState joins => exact .join inState joins
  | finish inState ends => exact .finish inState ends

/-- What an operation of the transmit half does and puts out depends on that half alone. -/
theorem effect_withTransmitHalf {i : Instr} (h : inTransmitHalf i = true) (s t : State) :
    effect i (t.withTransmitHalf s) = { t.withTransmitHalf (effect i s) with out := (effect i s).out } := by
  have pending : (t.withTransmitHalf s).txPending = s.txPending := rfl
  cases i with
  | txe => exact ((txeRow_txeEffect params s).withTransmitHalf t).txeEffect_eq
  | tc =>
    rw [effect, effect, completeTransmission_silent_eq, completeTransmission_silent_eq, pending]
    split <;> rfl
  | timer => rfl
  | pktSend f =>
    rcases Bool.eq_false_or_eq_true s.txPending with busy | free
    · rw [effect, effect, pktSendEffect_of_pending busy, pktSendEffect_of_pending (pending.trans busy)]
      rfl
    · rw [effect, effect, pktSendEffect_of_free free, pktSendEffect_of_free (pending.trans free)]
      rfl
  | _ => cases h

/-- What an operation of the receive half does and puts out depends on that half alone. -/
theorem effect_withReceiveHalf {i : Instr} (h : inReceiveHalf i = true) (s t : State) :
    effect i (t.withReceiveHalf s) = { t.withReceiveHalf (effect i s) with out := (effect i s).out } := by
  have pending : (t.withReceiveHalf s).rxPending = s.rxPending := rfl
  cases i with
  | rxByte b => rfl
  | pktRecv =>
    rcases Bool.eq_false_or_eq_true s.rxPending with waits | empty
    · rw [effect, effect, pktRecvEffect_of_pending waits, pktRecvEffect_of_pending (pending.trans waits)]
      rfl
    · rw [effect, effect, pktRecvEffect_of_empty empty, pktRecvEffect_of_empty (pending.trans empty)]
      rfl
  | _ => cases h

/-- Whether an operation of the transmit half is enabled depends on that half and on `initialised`. -/
theorem SameTransmitHalf.enabled_eq {i : Instr} (h : inTransmitHalf i = true) {s t : State} (same : SameTransmitHalf s t)
    (init : t.initialised = s.initialised) : enabled i t = enabled i s := by
  cases i with
  | txe => simp [init, same.txeIe]
  | tc => simp [init, same.tcIe]
  | timer => simp [init, same.timerArmed]
  | pktSend f => simp [init]
  | _ => cases h

/-- Whether an operation of the receive half is enabled depends on `initialised` alone. -/
theorem enabled_eq_of_inReceiveHalf {i : Instr} (h : inReceiveHalf i = true) {s t : State}
    (init : t.initialised = s.initialised) : enabled i t = enabled i s := by
  cases i with
  | rxByte b => simp [init]
  | pktRecv => simp [init]
  | _ => cases h

/-- An operation of the transmit half is neither RESET nor one of the receive half. -/
theorem ne_reset_and_not_inReceiveHalf {i : Instr} (h : inTransmitHalf i = true) :
    i ≠ .reset ∧ inReceiveHalf i = false := by
  cases i <;> simp [inTransmitHalf, inReceiveHalf] at h ⊢

/-- An operation of the receive half is neither RESET nor one of the transmit half. -/
theorem ne_reset_and_not_inTransmitHalf {i : Instr} (h : inReceiveHalf i = true) :
    i ≠ .reset ∧ inTransmitHalf i = false := by
  cases i <;> simp [inTransmitHalf, inReceiveHalf] at h ⊢

/-- Settles O54: an operation of one half is the same in a state with its half replaced, and writes no field of the other. -/
theorem halvesShareNoState : Obligations.HalvesShareNoState := by
  refine ⟨fun i s s' half hx => ?_, fun i s s' half hx => ?_⟩
  · obtain ⟨en, rfl⟩ := exec_eq_next.1 hx
    obtain ⟨notReset, other⟩ := ne_reset_and_not_inReceiveHalf half
    refine ⟨effect_sameReceiveHalf notReset other s, effect_sameRest notReset s, fun t same init => ?_⟩
    have effect_t := effect_withTransmitHalf half s t
    rw [same.withTransmitHalf_eq] at effect_t
    refine ⟨_, exec_eq_next.2 ⟨(same.enabled_eq half init).trans en, effect_t⟩, ?_, rfl⟩
    exact ⟨rfl, rfl, rfl, rfl, rfl, rfl, rfl, rfl⟩
  · obtain ⟨en, rfl⟩ := exec_eq_next.1 hx
    obtain ⟨notReset, other⟩ := ne_reset_and_not_inTransmitHalf half
    refine ⟨effect_sameTransmitHalf notReset other s, effect_sameRest notReset s, fun t same init => ?_⟩
    have effect_t := effect_withReceiveHalf half s t
    rw [same.withReceiveHalf_eq] at effect_t
    refine ⟨_, exec_eq_next.2 ⟨(enabled_eq_of_inReceiveHalf half init).trans en, effect_t⟩, ?_, rfl⟩
    exact ⟨rfl, rfl, rfl, rfl, rfl⟩

end Sys2Proof.Machine
end

section
/-! PROOFS, part 14. The transmit framer's table (42_tx_framer.md R94 to R103), and the drive invariant: every operation keeps
it, and with it R97's case is out of reach and the timer's end starts a frame. -/

namespace Sys2Proof.Machine

open Sys2Proof.Config (Params params)

variable {s : State}

/-! ## TXE, row by row -/

theorem txPending_eq_false_iff : s.txPending = false ↔ s.txHead = s.txTail := bne_eq_false_iff_eq

/-- Settles O28. -/
theorem txeIdleDisabledArmsTimer : Obligations.TxeIdleDisabledArmsTimer :=
  fun _ init driven idle off => exec_txe_of_row init driven (.startGap idle off)

/-- Settles O29. -/
theorem txeIdleStartsFrame : Obligations.TxeIdleStartsFrame :=
  fun s init driven idle on pending => exec_txe_of_row init driven (.startFrame idle on (s.txPending_iff.2 pending))

/-- Settles O31. -/
theorem txeSyncEmitsSync : Obligations.TxeSyncEmitsSync :=
  fun _ init driven =>
    ⟨fun inState => exec_txe_of_row init driven (.sync2 inState), fun inState => exec_txe_of_row init driven (.sync3 inState),
      fun inState => exec_txe_of_row init driven (.sync4 inState)⟩

/-- The symbol of nibble `k` is that of the low half, for even `k`, or the high half of byte `k / 2` (20_memory.md R42). -/
theorem encodeNibble_nibble (c : Params) (f : Frame) {k : Fin 8} {i : Fin 4} (half : i.val = k.val / 2) :
    encodeNibble c (f.nibble k) =
      c.codebook (if k.val % 2 = 0 then (f.byte i).extractLsb' 0 4 else (f.byte i).extractLsb' 4 4) := by
  have byte : byteOfNibble k = i := Fin.ext (by rw [half]; exact Nat.shiftRight_one k.val)
  have high : isHighNibble k = decide (k.val % 2 = 1) := Nat.testBit_zero k.val
  rcases Nat.mod_two_eq_zero_or_one k.val with parity | parity <;>
    simp [encodeNibble, Frame.nibble, byte, high, parity, lowNibble, highNibble]

/-- Settles O32: the rows of a payload state before and at nibble 7. -/
theorem txePayloadEmitsNibble : Obligations.TxePayloadEmitsNibble := by
  intro s k i init driven inState half
  rw [← encodeNibble_nibble params s.txSlot half]
  rcases Nat.lt_or_ge k.val 7 with lt | ge
  · simpa only [lt, if_true] using exec_txe_of_row init driven (.nibble inState lt)
  · obtain rfl : k = 7 := by omega
    exact exec_txe_of_row init driven (.lastNibble inState)

/-- Settles O33: the two rows of `EOF`. -/
theorem txeEofJoinsOrArmsCompletion : Obligations.TxeEofJoinsOrArmsCompletion := by
  intro s init driven inState
  have joins_iff : (params.txJoin && s.txPending) = true ↔ params.txJoin = true ∧ s.txHead ≠ s.txTail := by
    rw [Bool.and_eq_true, s.txPending_iff]
  split
  case isTrue joins => exact exec_txe_of_row init driven (.join inState (joins_iff.2 joins))
  case isFalse ends => exact exec_txe_of_row init driven (.finish inState (Bool.eq_false_iff.2 (mt joins_iff.1 ends)))

/-! ## TC, TIMER and TICK -/

theorem exec_tc_of_pending (init : s.initialised = true) (tc : s.tcIe = true) (pending : s.txPending = true) :
    exec .tc s = .next { s with tcIe := false, timerArmed := true, out := ⟨none, none⟩ } := by
  rw [exec_of_enabled (by simp [init, tc]), effect, completeTransmission_silent_eq, if_pos pending]

theorem exec_tc_of_free (init : s.initialised = true) (tc : s.tcIe = true) (free : s.txPending = false) :
    exec .tc s = .next { s with tcIe := false, txEnabled := false, out := ⟨none, none⟩ } := by
  rw [exec_of_enabled (by simp [init, tc]), effect, completeTransmission_silent_eq, if_neg (by simp [free])]

theorem exec_timer_of_armed (init : s.initialised = true) (armed : s.timerArmed = true) :
    exec .timer s = .next { s with timerArmed := false, txeIe := true, out := ⟨none, none⟩ } :=
  exec_of_enabled (by simp [init, armed])

/-- An operation is refused for the reason that `refusalOf` gives. -/
theorem exec_of_refusal {i : Instr} {why : Refusal} (h : refusalOf i s = some why) : exec i s = .refused why := by
  rw [exec_eq_perform, perform_eq_refused, h]

/-- Settles O34. -/
theorem tcRearmsTimerOrDisables : Obligations.TcRearmsTimerOrDisables := by
  refine fun s => ⟨fun init tc => ?_, fun init tc => exec_of_refusal (by simp [refusalOf, init, tc]),
    fun unborn => exec_of_not_initialised unborn (by simp)⟩
  split
  case isTrue pending => exact exec_tc_of_pending init tc (s.txPending_iff.2 pending)
  case isFalse free => exact exec_tc_of_free init tc (txPending_eq_false_iff.2 (not_not.1 free))

/-- Settles O36. -/
theorem tickChangesNothing : Obligations.TickChangesNothing :=
  fun s init => exec_of_enabled ((enabled_tick s).trans init)

/-! ## The drive invariant -/

/-- While TC is enabled, neither TXE nor the timer is (10_state.md R34(a)). -/
theorem TxControlInv.off_of_tc (h : TxControlInv s) (tc : s.tcIe = true) : s.txeIe = false ∧ s.timerArmed = false := by
  obtain ⟨txeTc, -, tcTimer⟩ := h.exclusive
  exact ⟨Bool.eq_false_iff.2 fun txe => txeTc ⟨txe, tc⟩, Bool.eq_false_iff.2 fun timer => tcTimer ⟨tc, timer⟩⟩

/-- While the timer runs, neither TXE nor TC is enabled (10_state.md R34(a)). -/
theorem TxControlInv.off_of_timer (h : TxControlInv s) (timer : s.timerArmed = true) : s.txeIe = false ∧ s.tcIe = false := by
  obtain ⟨-, txeTimer, tcTimer⟩ := h.exclusive
  exact ⟨Bool.eq_false_iff.2 fun txe => txeTimer ⟨txe, timer⟩, Bool.eq_false_iff.2 fun tc => tcTimer ⟨tc, timer⟩⟩

/-- A driven serializer has an event to come; if it is idle, it wants a frame. -/
theorem txDriveInv_of_driven (driven : s.txeIe = true) (timer : s.timerArmed = false)
    (frame : s.txState = .idle → s.txPending = true) : TxDriveInv s where
  drivenIdleHasFrame idle _ := frame idle
  timerHasFrame armed := by simp [timer] at armed
  eventToCome _ := .inl driven

/-- A serializer that is not driven waits for TC, or for the timer with a frame pending. -/
theorem txDriveInv_of_waiting (driven : s.txeIe = false) (waiting : s.tcIe = true ∨ s.timerArmed = true)
    (frame : s.timerArmed = true → s.txPending = true) : TxDriveInv s where
  drivenIdleHasFrame _ driven' := by simp [driven] at driven'
  timerHasFrame := frame
  eventToCome _ := .inr waiting

/-- A quiescent transmitter needs no event. -/
theorem txDriveInv_of_off (driven : s.txeIe = false) (timer : s.timerArmed = false) (off : s.txEnabled = false)
    (free : s.txPending = false) : TxDriveInv s := by
  constructor <;> simp [driven, timer, off, free]

theorem txDriveInv_afterReset (s : State) : TxDriveInv s.afterReset :=
  txDriveInv_of_off rfl rfl rfl rfl

/-- The invariant speaks of the transmit half only. -/
theorem TxDriveInv.of_same {s t : State} (h : TxDriveInv s) (same : SameTransmitHalf s t) : TxDriveInv t := by
  obtain ⟨txState, -, txHead, txTail, txeIe, tcIe, txEnabled, timerArmed⟩ := same
  obtain ⟨drivenIdleHasFrame, timerHasFrame, eventToCome⟩ := h
  constructor <;> simpa only [State.txPending, txState, txHead, txTail, txeIe, tcIe, txEnabled, timerArmed]

theorem TxeRow.keeps_txDriveInv {c : Params} {u : State} (row : TxeRow c s u) (control : TxControlInv s) (h : TxDriveInv s)
    (driven : s.txeIe = true) : TxDriveInv u := by
  obtain ⟨-, timer⟩ := control.waiting_off driven
  cases row with
  | startGap idle off => exact txDriveInv_of_waiting rfl (.inr rfl) fun _ => h.drivenIdleHasFrame idle driven
  | startFrame idle on pending => exact txDriveInv_of_driven driven timer fun _ => pending
  | nothingToSend idle on free => exact txDriveInv_of_waiting rfl (.inl rfl) fun _ => h.drivenIdleHasFrame idle driven
  | join inState joins => exact txDriveInv_of_driven driven timer fun _ => (Bool.and_eq_true_iff.1 joins).2
  | finish inState ends => exact txDriveInv_of_waiting rfl (.inl rfl) h.timerHasFrame
  | _ => exact txDriveInv_of_driven driven timer (by simp)

theorem effect_keeps_txDriveInv {i : Instr} (en : enabled i s = true) (control : TxControlInv s) (h : TxDriveInv s) :
    TxDriveInv (effect i s) := by
  cases i with
  | reset => exact txDriveInv_afterReset s
  | txe =>
    obtain ⟨-, driven⟩ : s.initialised = true ∧ s.txeIe = true := by simpa using en
    exact (txeRow_txeEffect params s).keeps_txDriveInv control h driven
  | tc =>
    obtain ⟨-, tc⟩ : s.initialised = true ∧ s.tcIe = true := by simpa using en
    obtain ⟨txe, timer⟩ := control.off_of_tc tc
    rw [effect, completeTransmission_silent_eq]
    split
    case isTrue pending => exact txDriveInv_of_waiting txe (.inr rfl) fun _ => pending
    case isFalse free => exact txDriveInv_of_off txe timer rfl (Bool.eq_false_iff.2 free)
  | timer =>
    obtain ⟨-, timer⟩ : s.initialised = true ∧ s.timerArmed = true := by simpa using en
    exact txDriveInv_of_driven rfl rfl fun _ => h.timerHasFrame timer
  | pktSend f =>
    rcases Bool.eq_false_or_eq_true s.txPending with pending | free
    · rw [effect, pktSendEffect_of_pending pending]
      exact h.of_same ⟨rfl, rfl, rfl, rfl, rfl, rfl, rfl, rfl⟩
    · rw [effect, pktSendEffect_of_free free]
      have filled : s.txHead + 1 ≠ s.txTail := by simp [txPending_eq_false_iff.1 free]
      have event : (!s.txEnabled || s.txeIe) = true ∨ s.tcIe = true ∨ s.timerArmed = true := by
        cases on : s.txEnabled with
        | false => exact .inl rfl
        | true => exact h.eventToCome (.inl on)
      exact ⟨fun _ _ => bne_iff_ne.2 filled, fun _ => bne_iff_ne.2 filled, fun _ => event⟩
  | _ => exact h.of_same (effect_sameTransmitHalf (by simp) rfl s)

/-- Settles O44: what every operation keeps, a step keeps. -/
theorem stepKeepsTransmitDrive : Obligations.StepKeepsTransmitDrive := by
  intro s t control drive h
  obtain ⟨w, rest, i, -, -, hx⟩ := step_eq_next h
  obtain ⟨en, rfl⟩ := exec_eq_next.1 hx
  have same : SameTransmitHalf s { s with ops := rest } := ⟨rfl, rfl, rfl, rfl, rfl, rfl, rfl, rfl⟩
  exact effect_keeps_txDriveInv en (control.of_same same) (drive.of_same same)

/-! ## What is reached from RESET -/

/-- Every state that a run from RESET reaches is initialised and meets both invariants of the transmit half. -/
theorem transmit_invariants_of_run_reset {is : List Instr} {s t : State} {outs : List Out}
    (h : run (.reset :: is) s = some (outs, t)) : t.initialised = true ∧ TxControlInv t ∧ TxDriveInv t := by
  refine run_reset_reaches (P := fun s => s.initialised = true ∧ TxControlInv s ∧ TxDriveInv s)
    (fun s => ⟨rfl, txControlInv_afterReset s, txDriveInv_afterReset s⟩) ?_ h
  rintro i s t ⟨-, control, drive⟩ hx
  obtain ⟨en, rfl⟩ := exec_eq_next.1 hx
  exact ⟨effect_initialised en, effect_keeps_txControlInv en control, effect_keeps_txDriveInv en control drive⟩

/-- Settles O30: the row, and that a driven idle serializer reached from RESET has a frame (`TxDriveInv`). -/
theorem txeIdleNothingArmsCompletion : Obligations.TxeIdleNothingArmsCompletion := by
  refine ⟨fun s init driven idle on free =>
    exec_txe_of_row init driven (.nothingToSend idle on (txPending_eq_false_iff.2 free)), ?_⟩
  rintro is s t outs h ⟨driven, idle, -, free⟩
  obtain ⟨-, -, drive⟩ := transmit_invariants_of_run_reset h
  exact t.txPending_iff.1 (drive.drivenIdleHasFrame idle driven) free

/-- Settles O35: while the timer runs the serializer is idle and on (`TxControlInv`) and has a frame (`TxDriveInv`). -/
theorem timerEnablesTxe : Obligations.TimerEnablesTxe := by
  refine ⟨fun s => ⟨exec_timer_of_armed, fun init armed => exec_of_refusal (by simp [refusalOf, init, armed]),
    fun unborn => exec_of_not_initialised unborn (by simp)⟩, fun is s t outs h armed => ?_⟩
  obtain ⟨init, control, drive⟩ := transmit_invariants_of_run_reset h
  have idle := control.idle_of_waiting (.inr armed)
  have on := control.onWhileWaiting (.inr armed)
  exact ⟨idle, on, _, _, exec_timer_of_armed init armed,
    exec_txe_of_row init rfl (.startFrame idle on (drive.timerHasFrame armed)), rfl, rfl⟩

end Sys2Proof.Machine
end

section
/-! PROOFS, part 15. A queued frame on its way out (42_tx_framer.md R104, R107, R108, R110): it stays in its slot, its bytes
come out whole and in order whatever happens in between, and the transmit events that send it are forced. -/

namespace Sys2Proof.Machine

open Sys2Proof.Config (Params params)

variable {s t u : State} {g : Frame} {n : Nat}

/-! ## The slot -/

/-- While a frame is pending, no operation but RESET writes the slot or its head, and only the payload step 7 moves the tail
(42_tx_framer.md R110). -/
theorem effect_keeps_pendingSlot {i : Instr} (hr : i ≠ .reset) (pending : s.txPending = true) :
    (effect i s).txSlot = s.txSlot ∧ (effect i s).txHead = s.txHead ∧
      ((effect i s).txTail ≠ s.txTail → i = .txe ∧ s.txState = .pay 7) := by
  have slot : (effect i s).txSlot = s.txSlot := by
    by_cases send : ∃ f, i = .pktSend f
    · obtain ⟨f, rfl⟩ := send
      rw [effect, pktSendEffect_of_pending pending]
    · exact (effect_txSlot_txHead hr (not_exists.1 send) s).1
  rcases effect_txCounters hr s with ⟨head, tail⟩ | ⟨free, -⟩ | ⟨txe, inState, head, -⟩
  · exact ⟨slot, head, fun moved => absurd tail moved⟩
  · simp [pending] at free
  · exact ⟨slot, head, fun _ => ⟨txe, inState⟩⟩

/-- Settles O47: in a sync or payload state a frame is pending. -/
theorem queuedFrameStaysInItsSlot : Obligations.QueuedFrameStaysInItsSlot := by
  refine ⟨fun i s t hx hr control notIdle notEof => ?_, fun i s t hx hr pending => ?_⟩ <;>
    obtain ⟨-, rfl⟩ := exec_eq_next.1 hx
  · exact (effect_keeps_pendingSlot hr (control.frameInSlot notIdle notEof)).1
  · exact effect_keeps_pendingSlot hr pending

/-! ## The bytes of the pending frame -/

/-- How many bytes of the pending frame the serializer has emitted: at `EOF` none, since the frame that ended is no longer
pending (42_tx_framer.md R99). -/
def TxState.sentOfPending : TxState → Nat
  | .eof => 0
  | x => x.emitted

theorem drop_wireFrame_pay (c : Params) (f : Frame) (k : Fin 8) :
    (wireFrame c f).drop (TxState.pay k).sentOfPending =
      encodeNibble c (f.nibble k) :: (wireFrame c f).drop ((TxState.pay k).sentOfPending + 1) :=
  drop_wireFrame c f k

/-- With a frame pending, TXE emits nothing and is as far with the frame as before, or emits the frame's next byte; until that
is the twelfth, the slot stays occupied. -/
theorem TxeRow.sends {c : Params} (row : TxeRow c s u) (pending : s.txPending = true) :
    (u.out.byte = none ∧ u.txTail = s.txTail ∧ u.txState.sentOfPending = s.txState.sentOfPending) ∨
    ∃ b, u.out.byte = some b ∧
      (wireFrame c s.txSlot).drop s.txState.sentOfPending =
        b :: (wireFrame c s.txSlot).drop (s.txState.sentOfPending + 1) ∧
      (s.txState.sentOfPending < 11 →
        u.txTail = s.txTail ∧ u.txState.sentOfPending = s.txState.sentOfPending + 1) := by
  cases row with
  | startGap idle off => exact .inl ⟨rfl, rfl, rfl⟩
  | startFrame idle on pending => rw [idle]; exact .inr ⟨_, rfl, rfl, fun _ => ⟨rfl, rfl⟩⟩
  | nothingToSend idle on free => simp [pending] at free
  | sync2 inState => rw [inState]; exact .inr ⟨_, rfl, rfl, fun _ => ⟨rfl, rfl⟩⟩
  | sync3 inState => rw [inState]; exact .inr ⟨_, rfl, rfl, fun _ => ⟨rfl, rfl⟩⟩
  | sync4 inState => rw [inState]; exact .inr ⟨_, rfl, rfl, fun _ => ⟨rfl, rfl⟩⟩
  | @nibble k inState lt =>
    have next : (TxState.pay (k + 1)).sentOfPending = (TxState.pay k).sentOfPending + 1 := by
      simp [TxState.sentOfPending, TxState.emitted]; omega
    rw [inState]
    exact .inr ⟨_, rfl, drop_wireFrame_pay c s.txSlot k, fun _ => ⟨rfl, next⟩⟩
  | lastNibble inState =>
    rw [inState]
    exact .inr ⟨_, rfl, drop_wireFrame_pay c s.txSlot 7, fun lt => absurd lt (by decide)⟩
  | join inState joins => rw [inState]; exact .inr ⟨_, rfl, rfl, fun _ => ⟨rfl, rfl⟩⟩
  | finish inState ends => rw [inState]; exact .inl ⟨rfl, rfl, rfl⟩

/-- Frame `g` is pending, and `n` of its bytes are emitted. -/
structure State.Sending (s : State) (g : Frame) (n : Nat) : Prop where
  init : s.initialised = true
  slot : s.txSlot = g
  pending : s.txPending = true
  sent : s.txState.sentOfPending = n

/-- Any operation but RESET emits nothing and leaves the frame as far as it was, or emits its next byte; until that is the
twelfth, the frame stays pending. -/
theorem State.Sending.step {i : Instr} (h : s.Sending g n) (hr : i ≠ .reset) (hx : exec i s = .next t) :
    (t.out.byte = none ∧ t.Sending g n) ∨
    ∃ b, t.out.byte = some b ∧ (wireFrame params g).drop n = b :: (wireFrame params g).drop (n + 1) ∧
      (n < 11 → t.Sending g (n + 1)) := by
  obtain ⟨init, rfl, pending, rfl⟩ := h
  obtain ⟨en, rfl⟩ := exec_eq_next.1 hx
  obtain ⟨slot, head, tail⟩ := effect_keeps_pendingSlot hr pending
  have sending {m : Nat} (tail : (effect i s).txTail = s.txTail) (sent : (effect i s).txState.sentOfPending = m) :
      (effect i s).Sending s.txSlot m :=
    ⟨effect_initialised en, slot, by rwa [State.txPending, head, tail], sent⟩
  by_cases txe : i = .txe
  · subst txe
    rcases (txeRow_txeEffect params s).sends pending with ⟨byte, tail, sent⟩ | ⟨b, byte, wire, more⟩
    · exact .inl ⟨byte, sending tail sent⟩
    · exact .inr ⟨b, byte, wire, fun lt => sending (more lt).1 (more lt).2⟩
  · have byte : (effect i s).out.byte = none := not_not.1 fun emits => txe ((effect_out hr s).1 emits)
    have state : (effect i s).txState = s.txState := not_not.1 fun moved => txe ((effect_controlWriters hr s).txState moved)
    exact .inl ⟨byte, sending (not_not.1 fun moved => txe (tail moved).1) (by rw [state])⟩

theorem length_wireFrame (c : Params) (f : Frame) : (wireFrame c f).length = 12 := by simp [wireFrame]

/-- What a run without RESET emits is a beginning of the pending frame's remaining bytes, or begins with all of them
(42_tx_framer.md R107). -/
theorem State.Sending.run {is : List Instr} {outs : List Out} (h : s.Sending g n) (noReset : .reset ∉ is)
    (hr : run is s = some (outs, u)) :
    (byteStream outs <+: (wireFrame params g).drop n ∧ u.Sending g (n + (byteStream outs).length)) ∨
      (wireFrame params g).drop n <+: byteStream outs := by
  induction is generalizing s n outs with
  | nil =>
    obtain ⟨rfl, rfl⟩ : [] = outs ∧ s = u := by simpa [Machine.run] using hr
    exact .inl ⟨List.nil_prefix, h⟩
  | cons i is ih =>
    obtain ⟨t, outs, step, rest, rfl⟩ := run_cons_eq_some.1 hr
    obtain ⟨notReset, noReset⟩ := List.ne_and_not_mem_of_not_mem_cons noReset
    rw [byteStream_cons]
    rcases h.step notReset.symm step with ⟨byte, sending⟩ | ⟨b, byte, wire, more⟩
    · simpa [byte] using ih sending noReset rest
    rw [byte, wire]
    rcases Nat.lt_or_ge n 11 with lt | ge
    · rcases ih (more lt) noReset rest with ⟨pre, sending⟩ | whole
      · refine .inl ⟨(List.prefix_cons_inj b).2 pre, ?_⟩
        rwa [add_assoc, add_comm 1] at sending
      · exact .inr ((List.prefix_cons_inj b).2 whole)
    · have last : (wireFrame params g).drop (n + 1) = [] := List.drop_eq_nil_of_le (by rw [length_wireFrame]; omega)
      rw [last]
      exact .inr (List.prefix_append [b] _)

/-- PKT_SEND that accepts a frame makes it the pending one, of which nothing is emitted yet (43_packet_queue.md R111). -/
theorem sending_of_accepted {f : Frame} (control : TxControlInv s) (hx : exec (.pktSend f) s = .next t)
    (accepted : t.out.result = some (.sent true)) : t.Sending (frameForSend params f) 0 := by
  obtain ⟨en, rfl⟩ := exec_eq_next.1 hx
  have init : s.initialised = true := by simpa using en
  rcases Bool.eq_false_or_eq_true s.txPending with pending | free
  · rw [effect, pktSendEffect_of_pending pending] at accepted
    simp at accepted
  have sent : s.txState.sentOfPending = 0 := by
    cases inState : s.txState with
    | idle => rfl
    | eof => rfl
    | _ => simp [control.frameInSlot (by simp [inState]) (by simp [inState])] at free
  rw [effect, pktSendEffect_of_free free]
  exact ⟨init, rfl, by simp [State.txPending, txPending_eq_false_iff.1 free], sent⟩

/-- Settles O48: what follows emits a beginning of the frame and keeps it pending, or begins with the whole frame
(`State.Sending.run`). -/
theorem acceptedFrameIsEmittedWhole : Obligations.AcceptedFrameIsEmittedWhole := by
  intro f is s t u outs control hx accepted noReset hr
  have length := length_wireFrame params (frameForSend params f)
  have sent := (sending_of_accepted control hx accepted).run noReset hr
  rw [List.drop_zero] at sent
  rcases sent with ⟨begins, init, slot, pending, -⟩ | whole
  · have short : (byteStream outs).length ≤ 12 := length ▸ begins.length_le
    refine ⟨?_, fun _ => ⟨slot, fun g => ?_⟩⟩
    · rw [List.take_of_length_le short, ← List.prefix_iff_eq_take.1 begins]
    · rw [exec_of_enabled (by simp [init]), effect, pktSendEffect_of_pending pending]
  · have long : (wireFrame params (frameForSend params f)).length ≤ (byteStream outs).length := whole.length_le
    refine ⟨?_, fun less => absurd (length ▸ long) (Nat.not_le.2 less)⟩
    rw [List.take_of_length_le long, ← length, ← List.prefix_iff_eq_take.1 whole]

/-! ## The transmit events are forced -/

/-- A transmit event that is enabled is the only one (10_state.md R34(a)). -/
theorem TxControlInv.only_enabled {i : Instr} (h : TxControlInv s) (event : i ∈ transmitEvents) (en : enabled i s = true) :
    ∀ j ∈ transmitEvents, enabled j s = decide (j = i) := by
  cases i with
  | txe =>
    obtain ⟨init, txe⟩ : s.initialised = true ∧ s.txeIe = true := by simpa using en
    simp [transmitEvents, init, txe, h.waiting_off txe]
  | tc =>
    obtain ⟨init, tc⟩ : s.initialised = true ∧ s.tcIe = true := by simpa using en
    simp [transmitEvents, init, tc, h.off_of_tc tc]
  | timer =>
    obtain ⟨init, timer⟩ : s.initialised = true ∧ s.timerArmed = true := by simpa using en
    simp [transmitEvents, init, timer, h.off_of_timer timer]
  | _ => simp [transmitEvents] at event

/-- In a run of transmit events each is the only one enabled at its turn (42_tx_framer.md R104). -/
theorem forced_of_run {is : List Instr} {outs : List Out} (h : TxControlInv s) (events : ∀ i ∈ is, i ∈ transmitEvents)
    (hr : run is s = some (outs, u)) : forced is s := by
  induction is generalizing s outs with
  | nil => trivial
  | cons i is ih =>
    obtain ⟨t, outs, step, rest, -⟩ := run_cons_eq_some.1 hr
    obtain ⟨event, events⟩ := List.forall_mem_cons.1 events
    obtain ⟨en, rfl⟩ := exec_eq_next.1 step
    exact ⟨h.only_enabled event en, _, step, ih (effect_keeps_txControlInv en h) events rest⟩

/-! ## A queued frame is sent -/

/-- At most `n` transmit events send the pending frame to its last byte, and free its slot. -/
def State.SentWithin (s : State) (n : Nat) : Prop :=
  ∃ events : List Instr, events.length ≤ n ∧ (∀ i ∈ events, i ∈ transmitEvents) ∧
    ∃ outs t, run events s = some (outs, t) ∧
      (t.txState = .eof ∧ t.txTail = s.txTail + 1 ∧ t.txHead = s.txHead ∧ t.txSlot = s.txSlot) ∧
      byteStream outs = (wireFrame params s.txSlot).drop s.txState.sentOfPending

theorem State.SentWithin.mono {m : Nat} (h : s.SentWithin m) (le : m ≤ n) : s.SentWithin n := by
  obtain ⟨events, length, rest⟩ := h
  exact ⟨events, length.trans le, rest⟩

/-- An event that emits nothing and leaves the frame as far as it was comes before those that send it. -/
theorem sentWithin_of_silent {i : Instr} (step : exec i s = .next t) (event : i ∈ transmitEvents)
    (silent : t.out.byte = none) (sent : t.txState.sentOfPending = s.txState.sentOfPending)
    (same : t.txTail = s.txTail ∧ t.txHead = s.txHead ∧ t.txSlot = s.txSlot) (h : t.SentWithin n) :
    s.SentWithin (n + 1) := by
  obtain ⟨events, length, all, outs, u, rest, ends, bytes⟩ := h
  obtain ⟨tail, head, slot⟩ := same
  rw [tail, head, slot] at ends
  refine ⟨i :: events, Nat.succ_le_succ length, List.forall_mem_cons.2 ⟨event, all⟩, _, u,
    run_cons_eq_some.2 ⟨t, outs, step, rest, rfl⟩, ends, ?_⟩
  rw [byteStream_cons, silent, bytes, slot, sent]
  rfl

theorem txe_mem_transmitEvents (n : Nat) : ∀ i ∈ List.replicate n Instr.txe, i ∈ transmitEvents := by
  intro i hi
  rw [List.eq_of_mem_replicate hi]
  exact List.mem_cons_self

/-- A frame that is begun needs at most eleven TXE. -/
theorem sentWithin_of_begun (init : s.initialised = true) (driven : s.txeIe = true) (begun : 0 < s.txState.sentOfPending) :
    s.SentWithin 11 := by
  obtain ⟨emitted, n, left⟩ : s.txState.sentOfPending = s.txState.emitted ∧ ∃ n, s.txState.emitted + (n + 1) = 12 := by
    cases inState : s.txState with
    | idle => simp [inState, TxState.sentOfPending, TxState.emitted] at begun
    | eof => simp [inState, TxState.sentOfPending] at begun
    | pay k => exact ⟨rfl, 7 - k.val, by simp only [TxState.emitted]; omega⟩
    | sync2 => exact ⟨rfl, 10, rfl⟩
    | sync3 => exact ⟨rfl, 9, rfl⟩
    | sync4 => exact ⟨rfl, 8, rfl⟩
  rw [emitted] at begun
  obtain ⟨outs, out, sent, bytes⟩ := run_txe_to_eof init driven begun left
  exact ⟨_, by rw [List.length_replicate]; omega, txe_mem_transmitEvents _, outs, _, sent, ⟨rfl, rfl, rfl, rfl⟩,
    by rw [bytes, emitted]⟩

/-- A frame that TXE begins needs eleven more. -/
theorem sentWithin_of_start (init : s.initialised = true) (driven : s.txeIe = true) (fresh : s.txState.sentOfPending = 0)
    (start : exec .txe s = .next { s with txState := .sync2, out := ⟨some params.syncCode, none⟩ }) : s.SentWithin 12 := by
  obtain ⟨events, length, all, outs, t, rest, ends, bytes⟩ :=
    sentWithin_of_begun (s := { s with txState := .sync2, out := ⟨some params.syncCode, none⟩ }) init driven Nat.one_pos
  refine ⟨.txe :: events, Nat.succ_le_succ length, List.forall_mem_cons.2 ⟨List.mem_cons_self, all⟩, _, t,
    run_cons_eq_some.2 ⟨_, outs, start, rest, rfl⟩, ends, ?_⟩
  rw [byteStream_cons, bytes, fresh]
  rfl

section
variable (init : s.initialised = true) (pending : s.txPending = true) (idle : s.txState = .idle)
include init pending idle

theorem sentWithin_of_timer (armed : s.timerArmed = true) (on : s.txEnabled = true) : s.SentWithin 13 :=
  sentWithin_of_silent (exec_timer_of_armed init armed) (by decide) rfl rfl ⟨rfl, rfl, rfl⟩
    (sentWithin_of_start init rfl (congrArg TxState.sentOfPending idle)
      (exec_txe_of_row init rfl (.startFrame idle on pending)))

theorem sentWithin_of_tc (tc : s.tcIe = true) (on : s.txEnabled = true) : s.SentWithin 14 :=
  sentWithin_of_silent (exec_tc_of_pending init tc pending) (by decide) rfl rfl ⟨rfl, rfl, rfl⟩
    (sentWithin_of_timer init pending idle rfl on)

theorem sentWithin_of_driven (driven : s.txeIe = true) : s.SentWithin 14 := by
  cases on : s.txEnabled with
  | true =>
    exact (sentWithin_of_start init driven (congrArg TxState.sentOfPending idle)
      (exec_txe_of_row init driven (.startFrame idle on pending))).mono (by decide)
  | false =>
    exact sentWithin_of_silent (exec_txe_of_row init driven (.startGap idle on)) (by decide) rfl rfl ⟨rfl, rfl, rfl⟩
      (sentWithin_of_timer init pending idle rfl rfl)

end

/-- At `EOF` the frame joins, or goes through TC and the timer (42_tx_framer.md R100). -/
theorem sentWithin_of_eof (init : s.initialised = true) (pending : s.txPending = true) (inState : s.txState = .eof)
    (driven : s.txeIe = true) (on : s.txEnabled = true) : s.SentWithin 15 := by
  cases joins : params.txJoin && s.txPending with
  | true =>
    exact (sentWithin_of_start init driven (congrArg TxState.sentOfPending inState)
      (exec_txe_of_row init driven (.join inState joins))).mono (by decide)
  | false =>
    exact sentWithin_of_silent (exec_txe_of_row init driven (.finish inState joins)) (by decide) rfl
      (congrArg TxState.sentOfPending inState).symm ⟨rfl, rfl, rfl⟩ (sentWithin_of_tc init pending rfl rfl on)

/-- A pending frame is sent within fifteen transmit events (42_tx_framer.md R107). -/
theorem sentWithin_fifteen (init : s.initialised = true) (control : TxControlInv s) (drive : TxDriveInv s)
    (pending : s.txPending = true) : s.SentWithin 15 := by
  have of_begun (notIdle : s.txState ≠ .idle) (begun : 0 < s.txState.sentOfPending) : s.SentWithin 15 :=
    (sentWithin_of_begun init (control.drivenUnlessIdle notIdle).1 begun).mono (by decide)
  cases inState : s.txState with
  | idle =>
    rcases drive.eventToCome (.inr pending) with driven | tc | armed
    · exact (sentWithin_of_driven init pending inState driven).mono (by decide)
    · exact (sentWithin_of_tc init pending inState tc (control.onWhileWaiting (.inl tc))).mono (by decide)
    · exact (sentWithin_of_timer init pending inState armed (control.onWhileWaiting (.inr armed))).mono (by decide)
  | eof =>
    obtain ⟨driven, on⟩ := control.drivenUnlessIdle (by simp [inState])
    exact sentWithin_of_eof init pending inState driven on
  | _ => exact of_begun (by simp [inState]) (by simp [inState, TxState.sentOfPending, TxState.emitted])

/-- Settles O46: the events that send the frame (`sentWithin_fifteen`) are forced, and before them the serializer has emitted
the bytes they leave out. -/
theorem queuedFrameIsSent : Obligations.QueuedFrameIsSent := by
  intro s init counters control drive pending
  obtain ⟨events, length, all, outs, t, sent, ⟨eof, tail, head, slot⟩, bytes⟩ :=
    sentWithin_fifteen init control drive pending
  obtain ⟨-, tx⟩ := counterInv_iff.1 counters
  have one := tx.eq_add_one (s.txPending_iff.1 pending)
  refine ⟨events, length, forced_of_run control all sent, all, outs, t, sent, tail,
    txPending_eq_false_iff.2 (by rw [head, tail, one]), slot, eof,
    (wireFrame params s.txSlot).take s.txState.sentOfPending, by rw [bytes, List.take_append_drop], ?_⟩
  rintro (idle | inState)
  · rw [idle]; rfl
  · rw [inState]; rfl

/-! ## The idle gap -/

/-- The serializer is idle, and driven only while the transmitter is off: no byte comes before a TIMER. -/
structure State.AwaitsTimer (s : State) : Prop where
  idle : s.txState = .idle
  notDriven : s.txEnabled = true → s.txeIe = false

theorem TxeRow.keeps_awaitsTimer {c : Params} (row : TxeRow c s u) (h : s.AwaitsTimer) (driven : s.txeIe = true) :
    u.out.byte = none ∧ u.AwaitsTimer := by
  obtain ⟨idle, notDriven⟩ := h
  cases row with
  | startGap _ off => exact ⟨rfl, idle, fun _ => rfl⟩
  | startFrame _ on pending => exact absurd driven (by simp [notDriven on])
  | nothingToSend _ on free => exact ⟨rfl, idle, fun _ => rfl⟩
  | _ inState => simp [idle] at inState

theorem effect_keeps_awaitsTimer {i : Instr} (h : s.AwaitsTimer) (en : enabled i s = true) (noTimer : i ≠ .timer) :
    (effect i s).out.byte = none ∧ (effect i s).AwaitsTimer := by
  obtain ⟨idle, notDriven⟩ := h
  cases i with
  | reset => exact ⟨rfl, rfl, fun _ => rfl⟩
  | timer => exact absurd rfl noTimer
  | txe =>
    obtain ⟨-, driven⟩ : s.initialised = true ∧ s.txeIe = true := by simpa using en
    exact (txeRow_txeEffect params s).keeps_awaitsTimer ⟨idle, notDriven⟩ driven
  | tc => exact ⟨rfl, by simpa [effect] using idle, by simpa [effect] using fun _ => notDriven⟩
  | pktSend f =>
    rcases Bool.eq_false_or_eq_true s.txPending with pending | free
    · rw [effect, pktSendEffect_of_pending pending]; exact ⟨rfl, idle, notDriven⟩
    · rw [effect, pktSendEffect_of_free free]
      refine ⟨rfl, idle, fun (on : s.txEnabled = true) => ?_⟩
      simpa [on] using notDriven on
  | rxByte b => exact ⟨rfl, idle, notDriven⟩
  | tick => exact ⟨rfl, idle, notDriven⟩
  | pktRecv =>
    rcases Bool.eq_false_or_eq_true s.rxPending with pending | empty
    · rw [effect, pktRecvEffect_of_pending pending]; exact ⟨rfl, idle, notDriven⟩
    · rw [effect, pktRecvEffect_of_empty empty]; exact ⟨rfl, idle, notDriven⟩

/-- Without a TIMER no byte comes (42_tx_framer.md R108). -/
theorem State.AwaitsTimer.byteStream_eq_nil {is : List Instr} {outs : List Out} (h : s.AwaitsTimer) (noTimer : .timer ∉ is)
    (hr : run is s = some (outs, u)) : byteStream outs = [] := by
  induction is generalizing s outs with
  | nil =>
    obtain ⟨rfl, -⟩ : [] = outs ∧ s = u := by simpa [run] using hr
    rfl
  | cons i is ih =>
    obtain ⟨t, outs, step, rest, rfl⟩ := run_cons_eq_some.1 hr
    obtain ⟨en, rfl⟩ := exec_eq_next.1 step
    obtain ⟨notTimer, noTimer⟩ := List.ne_and_not_mem_of_not_mem_cons noTimer
    obtain ⟨byte, awaits⟩ := effect_keeps_awaitsTimer h en notTimer.symm
    rw [byteStream_cons, byte, ih awaits noTimer rest]
    rfl

/-- Settles O49: a transmitter that is off awaits the timer, and so does one after TC. -/
theorem noByteWithoutIdleGap : Obligations.NoByteWithoutIdleGap := by
  refine ⟨fun is s u outs control off noTimer hr => ?_, fun is s t u outs control hx noTimer hr => ?_⟩
  · have awaits : s.AwaitsTimer := ⟨(control.offIsIdle off).1, by simp [off]⟩
    exact awaits.byteStream_eq_nil noTimer hr
  · obtain ⟨en, rfl⟩ := exec_eq_next.1 hx
    obtain ⟨-, tc⟩ : s.initialised = true ∧ s.tcIe = true := by simpa using en
    have awaits : s.AwaitsTimer := ⟨control.idle_of_waiting (.inl tc), fun _ => (control.off_of_tc tc).1⟩
    exact (effect_keeps_awaitsTimer awaits en (by simp)).2.byteStream_eq_nil noTimer hr

/-! ## One frame from quiescent -/

/-- The eight symbols, byte by byte. -/
theorem wireSymbols_eq (c : Params) (f : Frame) : wireSymbols c f =
    [c.codebook (f.b0.extractLsb' 0 4), c.codebook (f.b0.extractLsb' 4 4),
     c.codebook (f.b1.extractLsb' 0 4), c.codebook (f.b1.extractLsb' 4 4),
     c.codebook (f.b2.extractLsb' 0 4), c.codebook (f.b2.extractLsb' 4 4),
     c.codebook (f.b3.extractLsb' 0 4), c.codebook (f.b3.extractLsb' 4 4)] := by
  rw [wireSymbols_eq_ofFn]; rfl

/-- Settles O50: the run is `run_txRunQuiescent`, and under the control invariant it is forced. -/
theorem oneFrameFromQuiescent : Obligations.OneFrameFromQuiescent := by
  intro f s init control off free
  have idle := (control.offIsIdle off).1
  have one : s.txHead + 1 = s.txTail + 1 := congrArg (· + 1) (txPending_eq_false_iff.1 free)
  have en : enabled (.pktSend f) s = true := by simp [init]
  have control' := effect_keeps_txControlInv en control
  have deposit := exec_of_enabled en
  rw [effect, pktSendEffect_of_free free] at control' deposit
  obtain ⟨outs, sent, bytes⟩ := run_txRunQuiescent (s := { s with
      txSlot := frameForSend params f, txHead := s.txHead + 1, txeIe := !s.txEnabled || s.txeIe
      out := ⟨none, some (.sent true)⟩ }) init (by simp [off]) idle off one
  refine ⟨_, outs, _, deposit, rfl, forced_of_run control' (by decide) sent, sent, ?_, ?_, one.symm⟩
  · rw [bytes, wireFrame, wireSymbols_eq]; rfl
  · simpa [quiescent, State.txPending] using free

end Sys2Proof.Machine
end

section
/-! PROOFS, part 16. The packet queues (43_packet_queue.md R111 to R117): what PKT_SEND and PKT_RECV do, the frame that is
deposited, when a frame is delivered, and that the counters' values do not matter. -/

namespace Sys2Proof.Machine

open Sys2Proof.Config (Params params)

variable {s : State}

theorem rxPending_eq_false_iff : s.rxPending = false ↔ s.rxHead = s.rxTail := bne_eq_false_iff_eq

/-! ## The two operations -/

theorem exec_pktSend_of_pending (init : s.initialised = true) (pending : s.txPending = true) (f : Frame) :
    exec (.pktSend f) s = .next { s with out := ⟨none, some (.sent false)⟩ } :=
  exec_eq_next.2 ⟨(enabled_pktSend f s).trans init, pktSendEffect_of_pending pending params f⟩

theorem exec_pktSend_of_free (init : s.initialised = true) (free : s.txPending = false) (f : Frame) :
    exec (.pktSend f) s = .next
      { s with
        txSlot := frameForSend params f, txHead := s.txHead + 1, txeIe := !s.txEnabled || s.txeIe
        out := ⟨none, some (.sent true)⟩ } :=
  exec_eq_next.2 ⟨(enabled_pktSend f s).trans init, pktSendEffect_of_free free params f⟩

theorem exec_pktRecv_of_empty (init : s.initialised = true) (empty : s.rxPending = false) :
    exec .pktRecv s = .next { s with out := ⟨none, some (.received none)⟩ } :=
  exec_eq_next.2 ⟨(enabled_pktRecv s).trans init, pktRecvEffect_of_empty empty params⟩

theorem exec_pktRecv_of_pending (init : s.initialised = true) (pending : s.rxPending = true) :
    exec .pktRecv s = .next
      { s with
        rxTail := s.rxTail + 1
        out := ⟨none, some (.received (if crcCheck params s.rxSlot then some s.rxSlot else none))⟩ } :=
  exec_eq_next.2 ⟨(enabled_pktRecv s).trans init, pktRecvEffect_of_pending pending params⟩

/-- Settles O37: the slot is occupied or free. -/
theorem pktSendDepositsOrIsBusy : Obligations.PktSendDepositsOrIsBusy := by
  intro f s init
  have kick : (!s.txEnabled || s.txeIe) = if s.txEnabled = false then true else s.txeIe := by
    cases s.txEnabled <;> rfl
  split
  case isTrue busy => exact exec_pktSend_of_pending init (s.txPending_iff.2 busy) f
  case isFalse free => rw [exec_pktSend_of_free init (txPending_eq_false_iff.2 (not_not.1 free)), kick]

/-- Settles O38: a frame is pending or none is. -/
theorem pktRecvConsumesTheFrame : Obligations.PktRecvConsumesTheFrame := by
  intro s init
  split
  case isTrue empty => exact exec_pktRecv_of_empty init (rxPending_eq_false_iff.2 empty)
  case isFalse pending => exact exec_pktRecv_of_pending init (s.rxPending_iff.2 pending)

/-! ## The deposited frame -/

/-- OR and XOR put a check field alike into a masked byte 0 (43_packet_queue.md R112). -/
theorem and_payloadMask_xor (b : Byte) (k : Crc5) : b &&& 0xE0#8 ^^^ k.setWidth 8 = withCheckField b k := by
  have bits : k.setWidth 8 = 0#3 ++ k := BitVec.setWidth_eq_append (by decide)
  rw [and_payloadMask, bits, BitVec.xor_append, BitVec.xor_zero, BitVec.zero_xor, withCheckField]

/-- Settles O14: the deposited frame is the caller's with its CRC as check field (`frameForSend_eq`). -/
theorem frameForSendCarriesItsCrc : Obligations.FrameForSendCarriesItsCrc := by
  intro c f
  refine ⟨rfl, ?_⟩
  rw [frameForSend_eq]
  exact ⟨payloadField_withCheckField .., checkField_withCheckField .., (and_payloadMask_xor ..).symm⟩

/-! ## Delivery -/

/-- PKT_SEND answers whether it accepts the frame (43_packet_queue.md R111). -/
theorem pktSendEffect_result (c : Params) (f : Frame) (s : State) :
    (pktSendEffect c f s).out.result = some (.sent !s.txPending) := by
  rcases Bool.eq_false_or_eq_true s.txPending with pending | free
  · rw [pktSendEffect_of_pending pending, pending]; rfl
  · rw [pktSendEffect_of_free free, free]; rfl

/-- Only PKT_RECV answers as a receive does (10_state.md R31). -/
theorem eq_pktRecv_of_received {i : Instr} {r : Option Frame} (h : (effect i s).out.result = some (.received r)) :
    i = .pktRecv := by
  by_cases reset : i = .reset
  · subst reset; cases h
  rcases (effect_out reset s).2 (by simp [h]) with recv | ⟨f, rfl⟩
  · exact recv
  · rw [effect, pktSendEffect_result] at h; cases h

/-- A frame is delivered only while it is pending and where its CRC matches (43_packet_queue.md R114, R115). -/
theorem pktRecvEffect_delivers {c : Params} {f : Frame}
    (h : (pktRecvEffect c s).out.result = some (.received (some f))) :
    s.rxPending = true ∧ f = s.rxSlot ∧ crcCheck c f = true := by
  rcases Bool.eq_false_or_eq_true s.rxPending with pending | empty
  · obtain ⟨ok, rfl⟩ : crcCheck c s.rxSlot = true ∧ s.rxSlot = f := by
      simpa [pktRecvEffect_of_pending pending] using h
    exact ⟨pending, rfl, ok⟩
  · simp [pktRecvEffect_of_empty empty] at h

/-- Settles O39. -/
theorem uncheckedFrameIsNeverDelivered : Obligations.UncheckedFrameIsNeverDelivered := by
  refine ⟨fun i s t f hx delivered => ?_, fun s init pending =>
    ⟨_, exec_pktRecv_of_pending init pending, rfl, fun bad => by simp [bad]⟩⟩
  obtain ⟨-, rfl⟩ := exec_eq_next.1 hx
  obtain rfl := eq_pktRecv_of_received delivered
  obtain ⟨pending, slot, ok⟩ := pktRecvEffect_delivers delivered
  exact ⟨rfl, pending, slot, beq_iff_eq.1 ok⟩

/-- Settles O40: PKT_RECV leaves the slot empty, whether a frame was pending or none. -/
theorem publishedFrameIsDeliveredOnce : Obligations.PublishedFrameIsDeliveredOnce := by
  intro s t counters hx
  obtain ⟨en, rfl⟩ := exec_eq_next.1 hx
  have empty : (effect .pktRecv s).rxPending = false := by
    rcases Bool.eq_false_or_eq_true s.rxPending with pending | empty
    · have one : s.rxHead = s.rxTail + 1 := AtMostOnePending.eq_add_one counters.rx (s.rxPending_iff.1 pending)
      rw [effect, pktRecvEffect_of_pending pending]
      exact rxPending_eq_false_iff.2 one
    · rw [effect, pktRecvEffect_of_empty empty]
      exact empty
  exact ⟨empty, exec_pktRecv_of_empty (effect_initialised en) empty⟩

/-- Settles O52: the second frame finds the slot occupied, so it replaces the first and the head stays. -/
theorem secondFrameReplacesTheFirst : Obligations.SecondFrameReplacesTheFirst := by
  intro g h s init other empty
  have free : s.rxHead = s.rxTail := rxPending_eq_false_iff.1 empty
  obtain ⟨outs, first⟩ := wireFrameIsReceived g s init other
  rw [if_pos free, free] at first
  obtain ⟨outs', second⟩ := wireFrameIsReceived h
    { s with rxState := .hunt, rxBuf := g, rxSlot := g, rxHead := s.rxTail + 1, out := ⟨none, none⟩ } init (by simp)
  rw [if_neg (by simp)] at second
  refine ⟨_, _, run_append (run_append first second) (run_pktRecv_twice init rfl), ?_, ?_, rfl⟩
  · rw [← map_rxByte_wireFrame] at first second
    rw [List.filterMap_append, List.filterMap_append, results_run_rxBytes first, results_run_rxBytes second]
    rfl
  · exact rxPending_eq_false_iff.2 rfl

/-! ## The counters' values -/

variable (rxBy txBy : Counter)

theorem shiftCounters_rxPending (s : State) : (shiftCounters rxBy txBy s).rxPending = s.rxPending := by
  rw [Bool.eq_iff_iff, State.rxPending_iff, State.rxPending_iff]
  exact add_ne_add_left rxBy

theorem shiftCounters_txPending (s : State) : (shiftCounters rxBy txBy s).txPending = s.txPending := by
  rw [Bool.eq_iff_iff, State.txPending_iff, State.txPending_iff]
  exact add_ne_add_left txBy

/-- The conditions of the transmit table read the counters in `txPending` only (42_tx_framer.md R105). -/
theorem TxeRow.shift {c : Params} {u : State} (row : TxeRow c s u) :
    TxeRow c (shiftCounters rxBy txBy s) (shiftCounters rxBy txBy u) := by
  have pending := shiftCounters_txPending rxBy txBy s
  cases row with
  | startGap idle off => exact .startGap idle off
  | startFrame idle on waits => exact .startFrame idle on (pending.trans waits)
  | nothingToSend idle on free => exact .nothingToSend idle on (pending.trans free)
  | sync2 inState => exact .sync2 inState
  | sync3 inState => exact .sync3 inState
  | sync4 inState => exact .sync4 inState
  | nibble inState lt => exact .nibble inState lt
  | lastNibble inState =>
    simp only [shiftCounters, add_right_comm s.txTail 1]
    exact .lastNibble inState
  | join inState joins => exact .join inState (by rw [pending, joins])
  | finish inState ends => exact .finish inState (by rw [pending, ends])

/-- A publish compares the head with the tail only (41_rx_framer.md R86). -/
theorem RxRow.shift {r u : RxFields} {tail : Counter} {cls : SymbolClass} (row : RxRow r tail cls u) (added : Counter) :
    RxRow { r with head := r.head + added } (tail + added) cls { u with head := u.head + added } := by
  cases row with
  | move other => exact .move other
  | pack inState lt => exact .pack inState lt
  | publish inState =>
    have head : (if r.head = tail then r.head + 1 else r.head) + added =
        if r.head + added = tail + added then r.head + added + 1 else r.head + added := by
      simp only [add_left_inj, ← add_right_comm, ite_add]
    rw [head]
    exact .publish inState

/-- Every operation but RESET does the same to the shifted state (43_packet_queue.md R117). -/
theorem effect_shiftCounters {i : Instr} (hr : i ≠ .reset) (s : State) :
    effect i (shiftCounters rxBy txBy s) = shiftCounters rxBy txBy (effect i s) := by
  have rxPending := shiftCounters_rxPending rxBy txBy s
  have txPending := shiftCounters_txPending rxBy txBy s
  cases i with
  | reset => exact absurd rfl hr
  | rxByte b =>
    have fields := ((rxRow_next s.rxFields s.rxTail (decodeSymbol params b)).shift rxBy).next_eq
    exact congrArg (fun r => ((shiftCounters rxBy txBy s).withRxFields r).silent) fields
  | txe => exact ((txeRow_txeEffect params s).shift rxBy txBy).txeEffect_eq
  | tc =>
    rw [effect, effect, completeTransmission_silent_eq, completeTransmission_silent_eq, txPending]
    split <;> rfl
  | timer => rfl
  | tick => rfl
  | pktSend f =>
    rcases Bool.eq_false_or_eq_true s.txPending with busy | free
    · rw [effect, effect, pktSendEffect_of_pending busy, pktSendEffect_of_pending (txPending.trans busy)]
      rfl
    · rw [effect, effect, pktSendEffect_of_free free, pktSendEffect_of_free (txPending.trans free)]
      simp only [shiftCounters, add_right_comm s.txHead 1]
  | pktRecv =>
    rcases Bool.eq_false_or_eq_true s.rxPending with waits | empty
    · rw [effect, effect, pktRecvEffect_of_pending waits, pktRecvEffect_of_pending (rxPending.trans waits)]
      simp only [shiftCounters, add_right_comm s.rxTail 1]
      rfl
    · rw [effect, effect, pktRecvEffect_of_empty empty, pktRecvEffect_of_empty (rxPending.trans empty)]
      rfl

theorem mapNext_perform (g : State → State) (i : Instr) (s after : State) :
    mapNext g (perform i s after) = perform i s (g after) := by
  unfold perform
  cases refusalOf i s <;> rfl

/-- An operation is refused in the shifted state where it is in the state itself, for the same reason. -/
theorem perform_shiftCounters (i : Instr) (s after : State) :
    perform i (shiftCounters rxBy txBy s) after = perform i s after := by
  cases i <;> rfl

/-- Settles O58: refusals read no counter, and each effect commutes with the shift. -/
theorem counterValuesDoNotMatter : Obligations.CounterValuesDoNotMatter := by
  intro i s rxBy txBy hr
  rw [exec_eq_perform, exec_eq_perform, mapNext_perform, perform_shiftCounters, effect_shiftCounters rxBy txBy hr]

end Sys2Proof.Machine
end

section
/-! PROOFS, part 17. When an operation is refused and what that makes of a program (60_exceptions.md R128), and that operations
of the two halves can change places (60_exceptions.md R126, 41_rx_framer.md R90). -/

namespace Sys2Proof.Machine

variable {i j : Instr} {s t : State}

/-! ## Refusals -/

/-- An operation is refused exactly where it is not enabled (60_exceptions.md R124, R128). -/
theorem exists_exec_eq_refused_iff : (∃ why, exec i s = .refused why) ↔ enabled i s = false := by
  simp only [exec_eq_perform, perform_eq_refused, enabled, Option.isNone_eq_false_iff, Option.isSome_iff_exists]

/-- The cases (b) to (e) of 60_exceptions.md R128. -/
theorem enabled_eq_false_iff : enabled i s = false ↔
    (s.initialised = false ∧ i ≠ .reset) ∨ (i = .txe ∧ s.txeIe = false) ∨ (i = .tc ∧ s.tcIe = false) ∨
      (i = .timer ∧ s.timerArmed = false) := by
  cases i with
  | txe => simp [← Bool.and_eq_false_iff]
  | tc => simp [← Bool.and_eq_false_iff]
  | timer => simp [← Bool.and_eq_false_iff]
  | _ => simp

theorem programWellFormed_cons_of_next (step : exec i s = .next t) (is : List Instr) :
    programWellFormed (i :: is) s = programWellFormed is t := by
  simp only [programWellFormed, run, step]
  cases run is t <;> rfl

theorem programWellFormed_cons_of_refused {why : Refusal} (refused : exec i s = .refused why) (is : List Instr) :
    programWellFormed (i :: is) s = false := by
  simp only [programWellFormed, run, refused, Option.isSome_none]

/-- After operations that run, a program is well formed if the rest of it is where they lead. -/
theorem programWellFormed_append {is : List Instr} {outs : List Out} (first : run is s = some (outs, t)) (js : List Instr) :
    programWellFormed (is ++ js) s = programWellFormed js t := by
  induction is generalizing s outs with
  | nil =>
    obtain ⟨-, rfl⟩ : [] = outs ∧ s = t := by simpa [run] using first
    rfl
  | cons i is ih =>
    obtain ⟨v, outs', step, rest, -⟩ := run_cons_eq_some.1 first
    exact (programWellFormed_cons_of_next step (is ++ js)).trans (ih rest)

/-- Settles O20: an operation is refused exactly where it is not enabled, and a program is well formed only if no operation of
it is refused. -/
theorem refusedExactlyWhenNotEnabled : Obligations.RefusedExactlyWhenNotEnabled := by
  refine ⟨fun s w rest e waits invalid => ⟨_, step_of_decode_error waits invalid⟩, fun i s => ⟨?_, ?_⟩, ?_⟩
  · rw [exists_exec_eq_refused_iff, enabled_eq_false_iff]
  · cases en : enabled i s with
    | true => exact .inr ⟨_, exec_of_enabled en⟩
    | false => exact .inl (exists_exec_eq_refused_iff.2 en)
  · intro before after i s t outs first ⟨why, refused⟩
    rw [programWellFormed_append first, programWellFormed_cons_of_refused refused]

/-! ## The two halves change places -/

/-- In a state neither of two operations decides whether the other is enabled or what it puts out, and their order does not
matter to the state at the end but for its output record. -/
structure Independent (i j : Instr) (s : State) : Prop where
  /-- `j` neither enables nor disables `i`. -/
  enabledAfter : enabled i (effect j s) = enabled i s
  /-- `i` neither enables nor disables `j`. -/
  enabledBefore : enabled j (effect i s) = enabled j s
  /-- `i` puts out after `j` what it puts out first. -/
  outAfter : (effect i (effect j s)).out = (effect i s).out
  /-- `j` puts out after `i` what it puts out first. -/
  outBefore : (effect j (effect i s)).out = (effect j s).out
  /-- The last operation alone fills the output record. -/
  atEnd : { effect i (effect j s) with out := (effect j (effect i s)).out } = effect j (effect i s)

theorem Independent.symm (h : Independent i j s) : Independent j i s where
  enabledAfter := h.enabledBefore
  enabledBefore := h.enabledAfter
  outAfter := h.outBefore
  outBefore := h.outAfter
  atEnd := by rw [← h.atEnd]

/-- Independent operations that run in one order run in the other. -/
theorem Independent.exec_swap {u : State} (h : Independent i j s) (first : exec i s = .next t) (second : exec j t = .next u) :
    ∃ t' u', exec j s = .next t' ∧ exec i t' = .next u' ∧ t'.out = u.out ∧ u'.out = t.out ∧ { u' with out := u.out } = u := by
  obtain ⟨en, rfl⟩ := exec_eq_next.1 first
  obtain ⟨en', rfl⟩ := exec_eq_next.1 second
  exact ⟨_, _, exec_of_enabled (h.enabledBefore.symm.trans en'), exec_of_enabled (h.enabledAfter.trans en),
    h.outBefore.symm, h.outAfter, h.atEnd⟩

/-- The halves of two states put together from either side. -/
theorem SameRest.withTransmitHalf_eq_withReceiveHalf (same : SameRest s t) (o : Out) :
    { t.withTransmitHalf s with out := o } = { s.withReceiveHalf t with out := o } := by
  obtain ⟨initialised, ops, draws⟩ := same
  simp only [State.withTransmitHalf, State.withReceiveHalf, initialised, ops, draws]

/-- An operation of the transmit half and one of the receive half: each is the same in a state with the other half replaced, and
each replaces its own half only. -/
theorem independent_of_halves (transmit : inTransmitHalf i = true) (receive : inReceiveHalf j = true) (s : State) :
    Independent i j s := by
  obtain ⟨i_ne_reset, i_other⟩ := ne_reset_and_not_inReceiveHalf transmit
  obtain ⟨j_ne_reset, j_other⟩ := ne_reset_and_not_inTransmitHalf receive
  have i_rest := effect_sameRest i_ne_reset s
  have j_rest := effect_sameRest j_ne_reset s
  have j_keeps := effect_sameTransmitHalf j_ne_reset j_other s
  have i_after := effect_withTransmitHalf transmit s (effect j s)
  rw [j_keeps.withTransmitHalf_eq] at i_after
  have j_after := effect_withReceiveHalf receive s (effect i s)
  rw [(effect_sameReceiveHalf i_ne_reset i_other s).withReceiveHalf_eq] at j_after
  have rest : SameRest (effect i s) (effect j s) :=
    ⟨j_rest.initialised.trans i_rest.initialised.symm, j_rest.ops.trans i_rest.ops.symm, j_rest.draws.trans i_rest.draws.symm⟩
  exact {
    enabledAfter := j_keeps.enabled_eq transmit j_rest.initialised
    enabledBefore := enabled_eq_of_inReceiveHalf receive i_rest.initialised
    outAfter := by rw [i_after]
    outBefore := by rw [j_after]
    atEnd := by
      rw [i_after, j_after]
      exact rest.withTransmitHalf_eq_withReceiveHalf _ }

/-- Settles O55: operations of different halves are independent, whichever of the two comes first. -/
theorem halvesCommute : Obligations.HalvesCommute := by
  rintro i j s t u (⟨receive, transmit⟩ | ⟨transmit, receive⟩) first second
  · exact (independent_of_halves transmit receive s).symm.exec_swap first second
  · exact (independent_of_halves transmit receive s).exec_swap first second

end Sys2Proof.Machine
end

section
/-! PROOFS, part 18. What RESET and the lack of it leave enabled, what quiescence does, and the frame that a preamble in `SYNC_1`
loses (70_reset_and_hazards.md R136, R137, R144, R149). -/

namespace Sys2Proof.Machine

open Sys2Proof.Config (Params params params_legal)

variable {c : Params} {s : State} {r : RxFields} {tail : Counter}

/-! ## A preamble that begins in `SYNC_1` -/

/-- Of four sync markers received in `SYNC_1` the first and third align the framer, the second and fourth lead
back (41_rx_framer.md R82). -/
theorem RxFields.afterBytes_four_markers_of_sync1 (legal : c.legal = true) (sync1 : r.state = .sync1) :
    r.afterBytes c tail (List.replicate 4 c.syncCode) = r := by
  have marker : decodeSymbol c c.syncCode = .sync := decodeSymbol_eq_sync.2 (Params.syncCode_received legal)
  obtain ⟨state, buf, slot, head⟩ := r
  obtain rfl : state = .sync1 := sync1
  simp only [List.replicate, afterBytes_cons, marker]
  rfl

/-- To a framer that is not aligned data symbols are noise: it hunts, and packs and publishes nothing (41_rx_framer.md R84). -/
theorem RxFields.afterBytes_symbols_of_unaligned (legal : c.legal = true) (unaligned : ∀ k, r.state ≠ .nib k)
    {symbols : List Byte} (data : ∀ b ∈ symbols, ∃ n, c.codebook n = b) (nonempty : symbols ≠ []) :
    r.afterBytes c tail symbols = { r with state := .hunt } := by
  induction symbols generalizing r with
  | nil => exact absurd rfl nonempty
  | cons b symbols ih =>
    obtain ⟨n, hn⟩ := data b (by simp)
    have noise : r.state.after (.nibble n) = .hunt := by
      cases inState : r.state with
      | nib k => exact absurd inState (unaligned k)
      | _ => rfl
    have first : r.next tail (decodeSymbol c b) = { r with state := .hunt } := by
      rw [(decodeSymbol_eq_nibble legal).2 hn, (RxRow.move fun k _ inState => absurd inState (unaligned k)).next_eq, noise]
    rw [afterBytes_cons, first]
    cases symbols with
    | nil => rfl
    | cons b' symbols => exact ih nofun (fun b hb => data b (by simp [hb])) nofun

/-- The twelve bytes of a frame that begins in `SYNC_1` leave the framer hunting, and nothing else changed. -/
theorem RxFields.afterBytes_wireFrame_of_sync1 (legal : c.legal = true) (sync1 : r.state = .sync1) (g : Frame) :
    r.afterBytes c tail (wireFrame c g) = { r with state := .hunt } := by
  rw [wireFrame, afterBytes_append, afterBytes_four_markers_of_sync1 legal sync1]
  exact afterBytes_symbols_of_unaligned legal (by simp [sync1]) (fun _ => exists_nibble_of_mem_wireSymbols)
    (List.ne_nil_of_length_pos (by simp))

/-- Settles O27: four markers lead from `SYNC_1` back to it, where the symbols are noise. -/
theorem oddSyncCountLosesTheFrame : Obligations.OddSyncCountLosesTheFrame := by
  intro g s init sync1
  constructor
  · obtain ⟨outs, t, hr, fields, -, init'⟩ := run_rxBytes_fields (List.replicate 4 params.syncCode) init
    rw [RxFields.afterBytes_four_markers_of_sync1 params_legal sync1] at fields
    have still : t.rxState = .sync1 := (congrArg RxFields.state fields).trans sync1
    refine ⟨outs, t, by simpa [rxSync4] using hr, still, _, exec_of_enabled (by simpa using init'), ?_⟩
    simp only [effect, rxByteEffect_rxState, still, (decodeSymbol_eq_nibble params_legal).2 rfl]
    rfl
  · obtain ⟨outs, hr⟩ := run_rxBytes_cons params.syncCode (List.replicate 3 params.syncCode ++ wireSymbols params g) init
    rw [← List.cons_append, ← List.replicate_succ, ← wireFrame, map_rxByte_wireFrame,
      RxFields.afterBytes_wireFrame_of_sync1 params_legal sync1] at hr
    exact ⟨outs, hr⟩

/-! ## After RESET, and before the first one -/

theorem quiescent_iff : quiescent s = true ↔
    s.txEnabled = false ∧ s.txeIe = false ∧ s.tcIe = false ∧ s.timerArmed = false ∧ s.txState = .idle ∧
      s.txPending = false := by
  simp [quiescent, and_assoc]

/-- RESET leaves the transmitter with nothing to do (10_state.md R36). -/
theorem quiescent_afterReset (s : State) : quiescent s.afterReset = true :=
  quiescent_iff.2 ⟨rfl, rfl, rfl, rfl, rfl, rfl⟩

/-- Settles O17: RESET clears every enable and initialises the CORE, which is all that RX_BYTE needs. -/
theorem afterResetOnlyReceiveIsLive : Obligations.AfterResetOnlyReceiveIsLive := by
  intro s t hx
  obtain ⟨-, rfl⟩ := exec_eq_next.1 hx
  exact ⟨⟨rfl, rfl, rfl⟩, fun b => ⟨_, exec_of_enabled (enabled_rxByte b _)⟩, quiescent_afterReset s⟩

/-- Settles O19. -/
theorem refusedBeforeFirstReset : Obligations.RefusedBeforeFirstReset :=
  fun _ _ => exec_of_not_initialised

/-! ## Quiescence -/

theorem exists_exec_eq_next_iff {i : Instr} : (∃ t, exec i s = .next t) ↔ enabled i s = true := by
  simp only [exec_eq_next, exists_and_left, exists_eq', and_true]

/-- Settles O53: the three transmit events are the operations with an enable of their own, and quiescence clears all three. -/
theorem quiescentEnablesNoTransmitEvent : Obligations.QuiescentEnablesNoTransmitEvent := by
  intro i s init quiet
  obtain ⟨-, txe, tc, timer, -, -⟩ := quiescent_iff.1 quiet
  rw [exists_exec_eq_next_iff]
  cases i with
  | txe => simp [txe]
  | tc => simp [tc]
  | timer => simp [timer]
  | _ => simp [init]

end Sys2Proof.Machine
end

section
/-! PROOFS, part 19. The decode table of 95_test_vectors.md 2.1. -/

namespace Sys2Proof

/-- The round trip, for a word given by its bits. -/
theorem decode_eq_ok_of_encode_eq {i : Instr} {w : OpWord} (own : encode i = w) : decode w = .ok i := by
  rw [← own, decodeOfEncode]

/-- Settles O1: a word that the table gives an operation is that operation's own word, and any other word meets the condition of
its verdict (30_encoding.md R64, R65). -/
theorem decodeVectorsOfTheSpec : Obligations.DecodeVectorsOfTheSpec := by
  have own {i : Instr} {w : OpWord} : encode i = w → decode w = .ok i := decode_eq_ok_of_encode_eq
  have mbz {w : OpWord} := (decode_eq_nonzeroMbz_iff (w := w)).2
  have reserved {w : OpWord} := (decode_eq_reservedOp_iff (w := w)).2
  exact ⟨own rfl, own rfl, own rfl, own rfl, mbz (by decide), own rfl, mbz (by decide), own rfl, own rfl, own rfl, own rfl,
    own rfl, own rfl, own rfl, mbz (by decide), reserved (by decide), reserved (by decide), reserved (by decide)⟩

end Sys2Proof
end
